-- ==== Sys2Proof/Word.lean ====
section
/-! DEFINITION. The two word types of CORE: a byte (every bus access and every general register, R6) and a 16-bit word
(the program counter, the stack pointer, an address, R6). -/

namespace Sys2Proof

/-- Eight bits: a register, a byte on the bus (R6, R20). -/
abbrev Byte := BitVec 8

/-- Sixteen bits: `pc`, `sp`, an address, a register pair (R6, R22, R27, R28). -/
abbrev Word := BitVec 16

end Sys2Proof
end

