-- ==== Sys2Proof/Syntax.lean ====
section
/-! DEFINITION. The instructions as syntax: the operand kinds of R103 to R105 and ONE inductive with a constructor for
every mnemonic of spec/opcode_table.json (R107, R108). The eleven illegal bytes share the table's mnemonic ILLEGAL, so
one constructor carries the byte; the prefix byte's own row PREFIX_CB carries the byte after it. -/

namespace Sys2Proof

/-- The 8-bit registers a register field can name (R103, codes 0–5 and 7). F is never one (R23). -/
inductive Reg8 where
  | b | c | d | e | h | l | a
deriving DecidableEq, Repr

/-- The operand of a 3-bit register field (R103): a register, or code 6, the byte at the address HL. -/
inductive Target where
  | reg (r : Reg8)
  | atHl
deriving DecidableEq, Repr

/-- The source operand of the 8-bit ALU group, one encoding each (R170). -/
inductive AluSrc where
  | reg (r : Reg8)
  | atHl
  | imm (n8 : Byte)
deriving DecidableEq, Repr

/-- The 16-bit operands of the field `rp` (R103). -/
inductive Pair where
  | bc | de | hl | sp
deriving DecidableEq, Repr

/-- The 16-bit operands of the field `rp2`, of PUSH and POP alone (R103). -/
inductive StackPair where
  | bc | de | hl | af
deriving DecidableEq, Repr

/-- The condition codes (R104). -/
inductive Cond where
  | nz | z | nc | c
deriving DecidableEq, Repr

/-- The eight operations of the 8-bit ALU group, in the order of their code (R105). -/
inductive AluOp where
  | add | adc | sub | sbc | and | xor | or | cp
deriving DecidableEq, Repr

/-- The eight rotates and shifts of the prefixed group, in the order of their code (R105). -/
inductive RotOp where
  | rlc | rrc | rl | rr | sla | sra | swap | srl
deriving DecidableEq, Repr

/-- One instruction. Each constructor's docstring gives the table's own name, the bytes and the rule of its meaning.
An operand `n8`, `e8`, `n16` is the immediate as R106 assembles it. The constructors with an operand stand first, because the
compiler gives no constructor with a field a number above 244. -/
inductive Instr where
  /-- `LD BC,n16`, 01, R160. -/
  | ldBcN16 (n16 : Word)
  /-- `LD B,n8`, 06, R141. -/
  | ldBN8 (n8 : Byte)
  /-- `LD (n16),SP`, 08, R161. -/
  | ldMemSp (n16 : Word)
  /-- `LD C,n8`, 0E, R141. -/
  | ldCN8 (n8 : Byte)
  /-- `STOP`, 10, R242. -/
  | stop (n8 : Byte)
  /-- `LD DE,n16`, 11, R160. -/
  | ldDeN16 (n16 : Word)
  /-- `LD D,n8`, 16, R141. -/
  | ldDN8 (n8 : Byte)
  /-- `JR e8`, 18, R223. -/
  | jrE8 (e8 : Byte)
  /-- `LD E,n8`, 1E, R141. -/
  | ldEN8 (n8 : Byte)
  /-- `JR NZ,e8`, 20, R224. -/
  | jrNzE8 (e8 : Byte)
  /-- `LD HL,n16`, 21, R160. -/
  | ldHlN16 (n16 : Word)
  /-- `LD H,n8`, 26, R141. -/
  | ldHN8 (n8 : Byte)
  /-- `JR Z,e8`, 28, R224. -/
  | jrZE8 (e8 : Byte)
  /-- `LD L,n8`, 2E, R141. -/
  | ldLN8 (n8 : Byte)
  /-- `JR NC,e8`, 30, R224. -/
  | jrNcE8 (e8 : Byte)
  /-- `LD SP,n16`, 31, R160. -/
  | ldSpN16 (n16 : Word)
  /-- `LD (HL),n8`, 36, R144. -/
  | ldIndHlN8 (n8 : Byte)
  /-- `JR C,e8`, 38, R224. -/
  | jrCE8 (e8 : Byte)
  /-- `LD A,n8`, 3E, R141. -/
  | ldAN8 (n8 : Byte)
  /-- `JP NZ,n16`, C2, R221. -/
  | jpNzN16 (n16 : Word)
  /-- `JP n16`, C3, R220. -/
  | jpN16 (n16 : Word)
  /-- `CALL NZ,n16`, C4, R226. -/
  | callNzN16 (n16 : Word)
  /-- `ADD A,n8`, C6, R171. -/
  | addAN8 (n8 : Byte)
  /-- `JP Z,n16`, CA, R221. -/
  | jpZN16 (n16 : Word)
  /-- `PREFIX CB`, CB, R204. -/
  | prefixCb (b1 : Byte)
  /-- `CALL Z,n16`, CC, R226. -/
  | callZN16 (n16 : Word)
  /-- `CALL n16`, CD, R225. -/
  | callN16 (n16 : Word)
  /-- `ADC A,n8`, CE, R172. -/
  | adcAN8 (n8 : Byte)
  /-- `JP NC,n16`, D2, R221. -/
  | jpNcN16 (n16 : Word)
  /-- `ILLEGAL`, D3 DB DD E3 E4 EB EC ED F4 FC FD, R245. -/
  | illegal (b0 : Byte)
  /-- `CALL NC,n16`, D4, R226. -/
  | callNcN16 (n16 : Word)
  /-- `SUB n8`, D6, R173. -/
  | subN8 (n8 : Byte)
  /-- `JP C,n16`, DA, R221. -/
  | jpCN16 (n16 : Word)
  /-- `CALL C,n16`, DC, R226. -/
  | callCN16 (n16 : Word)
  /-- `SBC A,n8`, DE, R174. -/
  | sbcAN8 (n8 : Byte)
  /-- `LDH (n8),A`, E0, R150. -/
  | ldhMemA (n8 : Byte)
  /-- `AND n8`, E6, R175. -/
  | andN8 (n8 : Byte)
  /-- `ADD SP,e8`, E8, R193. -/
  | addSpE8 (e8 : Byte)
  /-- `LD (n16),A`, EA, R148. -/
  | ldMemA (n16 : Word)
  /-- `XOR n8`, EE, R176. -/
  | xorN8 (n8 : Byte)
  /-- `LDH A,(n8)`, F0, R149. -/
  | ldhAMem (n8 : Byte)
  /-- `OR n8`, F6, R177. -/
  | orN8 (n8 : Byte)
  /-- `LD HL,SP+e8`, F8, R165. -/
  | ldHlSpE8 (e8 : Byte)
  /-- `LD A,(n16)`, FA, R147. -/
  | ldAMem (n16 : Word)
  /-- `CP n8`, FE, R178. -/
  | cpN8 (n8 : Byte)
  /-- `NOP`, 00, R240. -/
  | nop
  /-- `LD (BC),A`, 02, R146. -/
  | ldIndBcA
  /-- `INC BC`, 03, R191. -/
  | incBc
  /-- `INC B`, 04, R179. -/
  | incB
  /-- `DEC B`, 05, R181. -/
  | decB
  /-- `RLCA`, 07, R200. -/
  | rlca
  /-- `ADD HL,BC`, 09, R190. -/
  | addHlBc
  /-- `LD A,(BC)`, 0A, R145. -/
  | ldAIndBc
  /-- `DEC BC`, 0B, R192. -/
  | decBc
  /-- `INC C`, 0C, R179. -/
  | incC
  /-- `DEC C`, 0D, R181. -/
  | decC
  /-- `RRCA`, 0F, R201. -/
  | rrca
  /-- `LD (DE),A`, 12, R146. -/
  | ldIndDeA
  /-- `INC DE`, 13, R191. -/
  | incDe
  /-- `INC D`, 14, R179. -/
  | incD
  /-- `DEC D`, 15, R181. -/
  | decD
  /-- `RLA`, 17, R202. -/
  | rla
  /-- `ADD HL,DE`, 19, R190. -/
  | addHlDe
  /-- `LD A,(DE)`, 1A, R145. -/
  | ldAIndDe
  /-- `DEC DE`, 1B, R192. -/
  | decDe
  /-- `INC E`, 1C, R179. -/
  | incE
  /-- `DEC E`, 1D, R181. -/
  | decE
  /-- `RRA`, 1F, R203. -/
  | rra
  /-- `LD (HL+),A`, 22, R155. -/
  | ldHliA
  /-- `INC HL`, 23, R191. -/
  | incHl
  /-- `INC H`, 24, R179. -/
  | incH
  /-- `DEC H`, 25, R181. -/
  | decH
  /-- `DAA`, 27, R183. -/
  | daa
  /-- `ADD HL,HL`, 29, R190. -/
  | addHlHl
  /-- `LD A,(HL+)`, 2A, R153. -/
  | ldAHli
  /-- `DEC HL`, 2B, R192. -/
  | decHl
  /-- `INC L`, 2C, R179. -/
  | incL
  /-- `DEC L`, 2D, R181. -/
  | decL
  /-- `CPL`, 2F, R184. -/
  | cpl
  /-- `LD (HL-),A`, 32, R156. -/
  | ldHldA
  /-- `INC SP`, 33, R191. -/
  | incSp
  /-- `INC (HL)`, 34, R180. -/
  | incIndHl
  /-- `DEC (HL)`, 35, R182. -/
  | decIndHl
  /-- `SCF`, 37, R185. -/
  | scf
  /-- `ADD HL,SP`, 39, R190. -/
  | addHlSp
  /-- `LD A,(HL-)`, 3A, R154. -/
  | ldAHld
  /-- `DEC SP`, 3B, R192. -/
  | decSp
  /-- `INC A`, 3C, R179. -/
  | incA
  /-- `DEC A`, 3D, R181. -/
  | decA
  /-- `CCF`, 3F, R186. -/
  | ccf
  /-- `LD B,B`, 40, R140. -/
  | ldBB
  /-- `LD B,C`, 41, R140. -/
  | ldBC
  /-- `LD B,D`, 42, R140. -/
  | ldBD
  /-- `LD B,E`, 43, R140. -/
  | ldBE
  /-- `LD B,H`, 44, R140. -/
  | ldBH
  /-- `LD B,L`, 45, R140. -/
  | ldBL
  /-- `LD B,(HL)`, 46, R142. -/
  | ldBIndHl
  /-- `LD B,A`, 47, R140. -/
  | ldBA
  /-- `LD C,B`, 48, R140. -/
  | ldCB
  /-- `LD C,C`, 49, R140. -/
  | ldCC
  /-- `LD C,D`, 4A, R140. -/
  | ldCD
  /-- `LD C,E`, 4B, R140. -/
  | ldCE
  /-- `LD C,H`, 4C, R140. -/
  | ldCH
  /-- `LD C,L`, 4D, R140. -/
  | ldCL
  /-- `LD C,(HL)`, 4E, R142. -/
  | ldCIndHl
  /-- `LD C,A`, 4F, R140. -/
  | ldCA
  /-- `LD D,B`, 50, R140. -/
  | ldDB
  /-- `LD D,C`, 51, R140. -/
  | ldDC
  /-- `LD D,D`, 52, R140. -/
  | ldDD
  /-- `LD D,E`, 53, R140. -/
  | ldDE
  /-- `LD D,H`, 54, R140. -/
  | ldDH
  /-- `LD D,L`, 55, R140. -/
  | ldDL
  /-- `LD D,(HL)`, 56, R142. -/
  | ldDIndHl
  /-- `LD D,A`, 57, R140. -/
  | ldDA
  /-- `LD E,B`, 58, R140. -/
  | ldEB
  /-- `LD E,C`, 59, R140. -/
  | ldEC
  /-- `LD E,D`, 5A, R140. -/
  | ldED
  /-- `LD E,E`, 5B, R140. -/
  | ldEE
  /-- `LD E,H`, 5C, R140. -/
  | ldEH
  /-- `LD E,L`, 5D, R140. -/
  | ldEL
  /-- `LD E,(HL)`, 5E, R142. -/
  | ldEIndHl
  /-- `LD E,A`, 5F, R140. -/
  | ldEA
  /-- `LD H,B`, 60, R140. -/
  | ldHB
  /-- `LD H,C`, 61, R140. -/
  | ldHC
  /-- `LD H,D`, 62, R140. -/
  | ldHD
  /-- `LD H,E`, 63, R140. -/
  | ldHE
  /-- `LD H,H`, 64, R140. -/
  | ldHH
  /-- `LD H,L`, 65, R140. -/
  | ldHL
  /-- `LD H,(HL)`, 66, R142. -/
  | ldHIndHl
  /-- `LD H,A`, 67, R140. -/
  | ldHA
  /-- `LD L,B`, 68, R140. -/
  | ldLB
  /-- `LD L,C`, 69, R140. -/
  | ldLC
  /-- `LD L,D`, 6A, R140. -/
  | ldLD
  /-- `LD L,E`, 6B, R140. -/
  | ldLE
  /-- `LD L,H`, 6C, R140. -/
  | ldLH
  /-- `LD L,L`, 6D, R140. -/
  | ldLL
  /-- `LD L,(HL)`, 6E, R142. -/
  | ldLIndHl
  /-- `LD L,A`, 6F, R140. -/
  | ldLA
  /-- `LD (HL),B`, 70, R143. -/
  | ldIndHlB
  /-- `LD (HL),C`, 71, R143. -/
  | ldIndHlC
  /-- `LD (HL),D`, 72, R143. -/
  | ldIndHlD
  /-- `LD (HL),E`, 73, R143. -/
  | ldIndHlE
  /-- `LD (HL),H`, 74, R143. -/
  | ldIndHlH
  /-- `LD (HL),L`, 75, R143. -/
  | ldIndHlL
  /-- `HALT`, 76, R241. -/
  | halt
  /-- `LD (HL),A`, 77, R143. -/
  | ldIndHlA
  /-- `LD A,B`, 78, R140. -/
  | ldAB
  /-- `LD A,C`, 79, R140. -/
  | ldAC
  /-- `LD A,D`, 7A, R140. -/
  | ldAD
  /-- `LD A,E`, 7B, R140. -/
  | ldAE
  /-- `LD A,H`, 7C, R140. -/
  | ldAH
  /-- `LD A,L`, 7D, R140. -/
  | ldAL
  /-- `LD A,(HL)`, 7E, R142. -/
  | ldAIndHl
  /-- `LD A,A`, 7F, R140. -/
  | ldAA
  /-- `ADD A,B`, 80, R171. -/
  | addAB
  /-- `ADD A,C`, 81, R171. -/
  | addAC
  /-- `ADD A,D`, 82, R171. -/
  | addAD
  /-- `ADD A,E`, 83, R171. -/
  | addAE
  /-- `ADD A,H`, 84, R171. -/
  | addAH
  /-- `ADD A,L`, 85, R171. -/
  | addAL
  /-- `ADD A,(HL)`, 86, R171. -/
  | addAIndHl
  /-- `ADD A,A`, 87, R171. -/
  | addAA
  /-- `ADC A,B`, 88, R172. -/
  | adcAB
  /-- `ADC A,C`, 89, R172. -/
  | adcAC
  /-- `ADC A,D`, 8A, R172. -/
  | adcAD
  /-- `ADC A,E`, 8B, R172. -/
  | adcAE
  /-- `ADC A,H`, 8C, R172. -/
  | adcAH
  /-- `ADC A,L`, 8D, R172. -/
  | adcAL
  /-- `ADC A,(HL)`, 8E, R172. -/
  | adcAIndHl
  /-- `ADC A,A`, 8F, R172. -/
  | adcAA
  /-- `SUB B`, 90, R173. -/
  | subB
  /-- `SUB C`, 91, R173. -/
  | subC
  /-- `SUB D`, 92, R173. -/
  | subD
  /-- `SUB E`, 93, R173. -/
  | subE
  /-- `SUB H`, 94, R173. -/
  | subH
  /-- `SUB L`, 95, R173. -/
  | subL
  /-- `SUB (HL)`, 96, R173. -/
  | subIndHl
  /-- `SUB A`, 97, R173. -/
  | subA
  /-- `SBC A,B`, 98, R174. -/
  | sbcAB
  /-- `SBC A,C`, 99, R174. -/
  | sbcAC
  /-- `SBC A,D`, 9A, R174. -/
  | sbcAD
  /-- `SBC A,E`, 9B, R174. -/
  | sbcAE
  /-- `SBC A,H`, 9C, R174. -/
  | sbcAH
  /-- `SBC A,L`, 9D, R174. -/
  | sbcAL
  /-- `SBC A,(HL)`, 9E, R174. -/
  | sbcAIndHl
  /-- `SBC A,A`, 9F, R174. -/
  | sbcAA
  /-- `AND B`, A0, R175. -/
  | andB
  /-- `AND C`, A1, R175. -/
  | andC
  /-- `AND D`, A2, R175. -/
  | andD
  /-- `AND E`, A3, R175. -/
  | andE
  /-- `AND H`, A4, R175. -/
  | andH
  /-- `AND L`, A5, R175. -/
  | andL
  /-- `AND (HL)`, A6, R175. -/
  | andIndHl
  /-- `AND A`, A7, R175. -/
  | andA
  /-- `XOR B`, A8, R176. -/
  | xorB
  /-- `XOR C`, A9, R176. -/
  | xorC
  /-- `XOR D`, AA, R176. -/
  | xorD
  /-- `XOR E`, AB, R176. -/
  | xorE
  /-- `XOR H`, AC, R176. -/
  | xorH
  /-- `XOR L`, AD, R176. -/
  | xorL
  /-- `XOR (HL)`, AE, R176. -/
  | xorIndHl
  /-- `XOR A`, AF, R176. -/
  | xorA
  /-- `OR B`, B0, R177. -/
  | orB
  /-- `OR C`, B1, R177. -/
  | orC
  /-- `OR D`, B2, R177. -/
  | orD
  /-- `OR E`, B3, R177. -/
  | orE
  /-- `OR H`, B4, R177. -/
  | orH
  /-- `OR L`, B5, R177. -/
  | orL
  /-- `OR (HL)`, B6, R177. -/
  | orIndHl
  /-- `OR A`, B7, R177. -/
  | orA
  /-- `CP B`, B8, R178. -/
  | cpB
  /-- `CP C`, B9, R178. -/
  | cpC
  /-- `CP D`, BA, R178. -/
  | cpD
  /-- `CP E`, BB, R178. -/
  | cpE
  /-- `CP H`, BC, R178. -/
  | cpH
  /-- `CP L`, BD, R178. -/
  | cpL
  /-- `CP (HL)`, BE, R178. -/
  | cpIndHl
  /-- `CP A`, BF, R178. -/
  | cpA
  /-- `RET NZ`, C0, R228. -/
  | retNz
  /-- `POP BC`, C1, R164. -/
  | popBc
  /-- `PUSH BC`, C5, R163. -/
  | pushBc
  /-- `RST 0x00`, C7, R230. -/
  | rst00
  /-- `RET Z`, C8, R228. -/
  | retZ
  /-- `RET`, C9, R227. -/
  | ret
  /-- `RST 0x08`, CF, R230. -/
  | rst08
  /-- `RET NC`, D0, R228. -/
  | retNc
  /-- `POP DE`, D1, R164. -/
  | popDe
  /-- `PUSH DE`, D5, R163. -/
  | pushDe
  /-- `RST 0x10`, D7, R230. -/
  | rst10
  /-- `RET C`, D8, R228. -/
  | retC
  /-- `RETI`, D9, R229. -/
  | reti
  /-- `RST 0x18`, DF, R230. -/
  | rst18
  /-- `POP HL`, E1, R164. -/
  | popHl
  /-- `LD (C),A`, E2, R152. -/
  | ldHighCA
  /-- `PUSH HL`, E5, R163. -/
  | pushHl
  /-- `RST 0x20`, E7, R230. -/
  | rst20
  /-- `JP HL`, E9, R222. -/
  | jpHl
  /-- `RST 0x28`, EF, R230. -/
  | rst28
  /-- `POP AF`, F1, R164. -/
  | popAf
  /-- `LD A,(C)`, F2, R151. -/
  | ldAHighC
  /-- `DI`, F3, R243. -/
  | di
  /-- `PUSH AF`, F5, R163. -/
  | pushAf
  /-- `RST 0x30`, F7, R230. -/
  | rst30
  /-- `LD SP,HL`, F9, R162. -/
  | ldSpHl
  /-- `EI`, FB, R244. -/
  | ei
  /-- `RST 0x38`, FF, R230. -/
  | rst38
  /-- `RLC B`, CB 00, R205. -/
  | rlcB
  /-- `RLC C`, CB 01, R205. -/
  | rlcC
  /-- `RLC D`, CB 02, R205. -/
  | rlcD
  /-- `RLC E`, CB 03, R205. -/
  | rlcE
  /-- `RLC H`, CB 04, R205. -/
  | rlcH
  /-- `RLC L`, CB 05, R205. -/
  | rlcL
  /-- `RLC (HL)`, CB 06, R205. -/
  | rlcIndHl
  /-- `RLC A`, CB 07, R205. -/
  | rlcA
  /-- `RRC B`, CB 08, R206. -/
  | rrcB
  /-- `RRC C`, CB 09, R206. -/
  | rrcC
  /-- `RRC D`, CB 0A, R206. -/
  | rrcD
  /-- `RRC E`, CB 0B, R206. -/
  | rrcE
  /-- `RRC H`, CB 0C, R206. -/
  | rrcH
  /-- `RRC L`, CB 0D, R206. -/
  | rrcL
  /-- `RRC (HL)`, CB 0E, R206. -/
  | rrcIndHl
  /-- `RRC A`, CB 0F, R206. -/
  | rrcA
  /-- `RL B`, CB 10, R207. -/
  | rlB
  /-- `RL C`, CB 11, R207. -/
  | rlC
  /-- `RL D`, CB 12, R207. -/
  | rlD
  /-- `RL E`, CB 13, R207. -/
  | rlE
  /-- `RL H`, CB 14, R207. -/
  | rlH
  /-- `RL L`, CB 15, R207. -/
  | rlL
  /-- `RL (HL)`, CB 16, R207. -/
  | rlIndHl
  /-- `RL A`, CB 17, R207. -/
  | rlA
  /-- `RR B`, CB 18, R208. -/
  | rrB
  /-- `RR C`, CB 19, R208. -/
  | rrC
  /-- `RR D`, CB 1A, R208. -/
  | rrD
  /-- `RR E`, CB 1B, R208. -/
  | rrE
  /-- `RR H`, CB 1C, R208. -/
  | rrH
  /-- `RR L`, CB 1D, R208. -/
  | rrL
  /-- `RR (HL)`, CB 1E, R208. -/
  | rrIndHl
  /-- `RR A`, CB 1F, R208. -/
  | rrA
  /-- `SLA B`, CB 20, R209. -/
  | slaB
  /-- `SLA C`, CB 21, R209. -/
  | slaC
  /-- `SLA D`, CB 22, R209. -/
  | slaD
  /-- `SLA E`, CB 23, R209. -/
  | slaE
  /-- `SLA H`, CB 24, R209. -/
  | slaH
  /-- `SLA L`, CB 25, R209. -/
  | slaL
  /-- `SLA (HL)`, CB 26, R209. -/
  | slaIndHl
  /-- `SLA A`, CB 27, R209. -/
  | slaA
  /-- `SRA B`, CB 28, R210. -/
  | sraB
  /-- `SRA C`, CB 29, R210. -/
  | sraC
  /-- `SRA D`, CB 2A, R210. -/
  | sraD
  /-- `SRA E`, CB 2B, R210. -/
  | sraE
  /-- `SRA H`, CB 2C, R210. -/
  | sraH
  /-- `SRA L`, CB 2D, R210. -/
  | sraL
  /-- `SRA (HL)`, CB 2E, R210. -/
  | sraIndHl
  /-- `SRA A`, CB 2F, R210. -/
  | sraA
  /-- `SWAP B`, CB 30, R211. -/
  | swapB
  /-- `SWAP C`, CB 31, R211. -/
  | swapC
  /-- `SWAP D`, CB 32, R211. -/
  | swapD
  /-- `SWAP E`, CB 33, R211. -/
  | swapE
  /-- `SWAP H`, CB 34, R211. -/
  | swapH
  /-- `SWAP L`, CB 35, R211. -/
  | swapL
  /-- `SWAP (HL)`, CB 36, R211. -/
  | swapIndHl
  /-- `SWAP A`, CB 37, R211. -/
  | swapA
  /-- `SRL B`, CB 38, R212. -/
  | srlB
  /-- `SRL C`, CB 39, R212. -/
  | srlC
  /-- `SRL D`, CB 3A, R212. -/
  | srlD
  /-- `SRL E`, CB 3B, R212. -/
  | srlE
  /-- `SRL H`, CB 3C, R212. -/
  | srlH
  /-- `SRL L`, CB 3D, R212. -/
  | srlL
  /-- `SRL (HL)`, CB 3E, R212. -/
  | srlIndHl
  /-- `SRL A`, CB 3F, R212. -/
  | srlA
  /-- `BIT 0,B`, CB 40, R213. -/
  | bit0B
  /-- `BIT 0,C`, CB 41, R213. -/
  | bit0C
  /-- `BIT 0,D`, CB 42, R213. -/
  | bit0D
  /-- `BIT 0,E`, CB 43, R213. -/
  | bit0E
  /-- `BIT 0,H`, CB 44, R213. -/
  | bit0H
  /-- `BIT 0,L`, CB 45, R213. -/
  | bit0L
  /-- `BIT 0,(HL)`, CB 46, R213. -/
  | bit0IndHl
  /-- `BIT 0,A`, CB 47, R213. -/
  | bit0A
  /-- `BIT 1,B`, CB 48, R213. -/
  | bit1B
  /-- `BIT 1,C`, CB 49, R213. -/
  | bit1C
  /-- `BIT 1,D`, CB 4A, R213. -/
  | bit1D
  /-- `BIT 1,E`, CB 4B, R213. -/
  | bit1E
  /-- `BIT 1,H`, CB 4C, R213. -/
  | bit1H
  /-- `BIT 1,L`, CB 4D, R213. -/
  | bit1L
  /-- `BIT 1,(HL)`, CB 4E, R213. -/
  | bit1IndHl
  /-- `BIT 1,A`, CB 4F, R213. -/
  | bit1A
  /-- `BIT 2,B`, CB 50, R213. -/
  | bit2B
  /-- `BIT 2,C`, CB 51, R213. -/
  | bit2C
  /-- `BIT 2,D`, CB 52, R213. -/
  | bit2D
  /-- `BIT 2,E`, CB 53, R213. -/
  | bit2E
  /-- `BIT 2,H`, CB 54, R213. -/
  | bit2H
  /-- `BIT 2,L`, CB 55, R213. -/
  | bit2L
  /-- `BIT 2,(HL)`, CB 56, R213. -/
  | bit2IndHl
  /-- `BIT 2,A`, CB 57, R213. -/
  | bit2A
  /-- `BIT 3,B`, CB 58, R213. -/
  | bit3B
  /-- `BIT 3,C`, CB 59, R213. -/
  | bit3C
  /-- `BIT 3,D`, CB 5A, R213. -/
  | bit3D
  /-- `BIT 3,E`, CB 5B, R213. -/
  | bit3E
  /-- `BIT 3,H`, CB 5C, R213. -/
  | bit3H
  /-- `BIT 3,L`, CB 5D, R213. -/
  | bit3L
  /-- `BIT 3,(HL)`, CB 5E, R213. -/
  | bit3IndHl
  /-- `BIT 3,A`, CB 5F, R213. -/
  | bit3A
  /-- `BIT 4,B`, CB 60, R213. -/
  | bit4B
  /-- `BIT 4,C`, CB 61, R213. -/
  | bit4C
  /-- `BIT 4,D`, CB 62, R213. -/
  | bit4D
  /-- `BIT 4,E`, CB 63, R213. -/
  | bit4E
  /-- `BIT 4,H`, CB 64, R213. -/
  | bit4H
  /-- `BIT 4,L`, CB 65, R213. -/
  | bit4L
  /-- `BIT 4,(HL)`, CB 66, R213. -/
  | bit4IndHl
  /-- `BIT 4,A`, CB 67, R213. -/
  | bit4A
  /-- `BIT 5,B`, CB 68, R213. -/
  | bit5B
  /-- `BIT 5,C`, CB 69, R213. -/
  | bit5C
  /-- `BIT 5,D`, CB 6A, R213. -/
  | bit5D
  /-- `BIT 5,E`, CB 6B, R213. -/
  | bit5E
  /-- `BIT 5,H`, CB 6C, R213. -/
  | bit5H
  /-- `BIT 5,L`, CB 6D, R213. -/
  | bit5L
  /-- `BIT 5,(HL)`, CB 6E, R213. -/
  | bit5IndHl
  /-- `BIT 5,A`, CB 6F, R213. -/
  | bit5A
  /-- `BIT 6,B`, CB 70, R213. -/
  | bit6B
  /-- `BIT 6,C`, CB 71, R213. -/
  | bit6C
  /-- `BIT 6,D`, CB 72, R213. -/
  | bit6D
  /-- `BIT 6,E`, CB 73, R213. -/
  | bit6E
  /-- `BIT 6,H`, CB 74, R213. -/
  | bit6H
  /-- `BIT 6,L`, CB 75, R213. -/
  | bit6L
  /-- `BIT 6,(HL)`, CB 76, R213. -/
  | bit6IndHl
  /-- `BIT 6,A`, CB 77, R213. -/
  | bit6A
  /-- `BIT 7,B`, CB 78, R213. -/
  | bit7B
  /-- `BIT 7,C`, CB 79, R213. -/
  | bit7C
  /-- `BIT 7,D`, CB 7A, R213. -/
  | bit7D
  /-- `BIT 7,E`, CB 7B, R213. -/
  | bit7E
  /-- `BIT 7,H`, CB 7C, R213. -/
  | bit7H
  /-- `BIT 7,L`, CB 7D, R213. -/
  | bit7L
  /-- `BIT 7,(HL)`, CB 7E, R213. -/
  | bit7IndHl
  /-- `BIT 7,A`, CB 7F, R213. -/
  | bit7A
  /-- `RES 0,B`, CB 80, R214. -/
  | res0B
  /-- `RES 0,C`, CB 81, R214. -/
  | res0C
  /-- `RES 0,D`, CB 82, R214. -/
  | res0D
  /-- `RES 0,E`, CB 83, R214. -/
  | res0E
  /-- `RES 0,H`, CB 84, R214. -/
  | res0H
  /-- `RES 0,L`, CB 85, R214. -/
  | res0L
  /-- `RES 0,(HL)`, CB 86, R214. -/
  | res0IndHl
  /-- `RES 0,A`, CB 87, R214. -/
  | res0A
  /-- `RES 1,B`, CB 88, R214. -/
  | res1B
  /-- `RES 1,C`, CB 89, R214. -/
  | res1C
  /-- `RES 1,D`, CB 8A, R214. -/
  | res1D
  /-- `RES 1,E`, CB 8B, R214. -/
  | res1E
  /-- `RES 1,H`, CB 8C, R214. -/
  | res1H
  /-- `RES 1,L`, CB 8D, R214. -/
  | res1L
  /-- `RES 1,(HL)`, CB 8E, R214. -/
  | res1IndHl
  /-- `RES 1,A`, CB 8F, R214. -/
  | res1A
  /-- `RES 2,B`, CB 90, R214. -/
  | res2B
  /-- `RES 2,C`, CB 91, R214. -/
  | res2C
  /-- `RES 2,D`, CB 92, R214. -/
  | res2D
  /-- `RES 2,E`, CB 93, R214. -/
  | res2E
  /-- `RES 2,H`, CB 94, R214. -/
  | res2H
  /-- `RES 2,L`, CB 95, R214. -/
  | res2L
  /-- `RES 2,(HL)`, CB 96, R214. -/
  | res2IndHl
  /-- `RES 2,A`, CB 97, R214. -/
  | res2A
  /-- `RES 3,B`, CB 98, R214. -/
  | res3B
  /-- `RES 3,C`, CB 99, R214. -/
  | res3C
  /-- `RES 3,D`, CB 9A, R214. -/
  | res3D
  /-- `RES 3,E`, CB 9B, R214. -/
  | res3E
  /-- `RES 3,H`, CB 9C, R214. -/
  | res3H
  /-- `RES 3,L`, CB 9D, R214. -/
  | res3L
  /-- `RES 3,(HL)`, CB 9E, R214. -/
  | res3IndHl
  /-- `RES 3,A`, CB 9F, R214. -/
  | res3A
  /-- `RES 4,B`, CB A0, R214. -/
  | res4B
  /-- `RES 4,C`, CB A1, R214. -/
  | res4C
  /-- `RES 4,D`, CB A2, R214. -/
  | res4D
  /-- `RES 4,E`, CB A3, R214. -/
  | res4E
  /-- `RES 4,H`, CB A4, R214. -/
  | res4H
  /-- `RES 4,L`, CB A5, R214. -/
  | res4L
  /-- `RES 4,(HL)`, CB A6, R214. -/
  | res4IndHl
  /-- `RES 4,A`, CB A7, R214. -/
  | res4A
  /-- `RES 5,B`, CB A8, R214. -/
  | res5B
  /-- `RES 5,C`, CB A9, R214. -/
  | res5C
  /-- `RES 5,D`, CB AA, R214. -/
  | res5D
  /-- `RES 5,E`, CB AB, R214. -/
  | res5E
  /-- `RES 5,H`, CB AC, R214. -/
  | res5H
  /-- `RES 5,L`, CB AD, R214. -/
  | res5L
  /-- `RES 5,(HL)`, CB AE, R214. -/
  | res5IndHl
  /-- `RES 5,A`, CB AF, R214. -/
  | res5A
  /-- `RES 6,B`, CB B0, R214. -/
  | res6B
  /-- `RES 6,C`, CB B1, R214. -/
  | res6C
  /-- `RES 6,D`, CB B2, R214. -/
  | res6D
  /-- `RES 6,E`, CB B3, R214. -/
  | res6E
  /-- `RES 6,H`, CB B4, R214. -/
  | res6H
  /-- `RES 6,L`, CB B5, R214. -/
  | res6L
  /-- `RES 6,(HL)`, CB B6, R214. -/
  | res6IndHl
  /-- `RES 6,A`, CB B7, R214. -/
  | res6A
  /-- `RES 7,B`, CB B8, R214. -/
  | res7B
  /-- `RES 7,C`, CB B9, R214. -/
  | res7C
  /-- `RES 7,D`, CB BA, R214. -/
  | res7D
  /-- `RES 7,E`, CB BB, R214. -/
  | res7E
  /-- `RES 7,H`, CB BC, R214. -/
  | res7H
  /-- `RES 7,L`, CB BD, R214. -/
  | res7L
  /-- `RES 7,(HL)`, CB BE, R214. -/
  | res7IndHl
  /-- `RES 7,A`, CB BF, R214. -/
  | res7A
  /-- `SET 0,B`, CB C0, R215. -/
  | set0B
  /-- `SET 0,C`, CB C1, R215. -/
  | set0C
  /-- `SET 0,D`, CB C2, R215. -/
  | set0D
  /-- `SET 0,E`, CB C3, R215. -/
  | set0E
  /-- `SET 0,H`, CB C4, R215. -/
  | set0H
  /-- `SET 0,L`, CB C5, R215. -/
  | set0L
  /-- `SET 0,(HL)`, CB C6, R215. -/
  | set0IndHl
  /-- `SET 0,A`, CB C7, R215. -/
  | set0A
  /-- `SET 1,B`, CB C8, R215. -/
  | set1B
  /-- `SET 1,C`, CB C9, R215. -/
  | set1C
  /-- `SET 1,D`, CB CA, R215. -/
  | set1D
  /-- `SET 1,E`, CB CB, R215. -/
  | set1E
  /-- `SET 1,H`, CB CC, R215. -/
  | set1H
  /-- `SET 1,L`, CB CD, R215. -/
  | set1L
  /-- `SET 1,(HL)`, CB CE, R215. -/
  | set1IndHl
  /-- `SET 1,A`, CB CF, R215. -/
  | set1A
  /-- `SET 2,B`, CB D0, R215. -/
  | set2B
  /-- `SET 2,C`, CB D1, R215. -/
  | set2C
  /-- `SET 2,D`, CB D2, R215. -/
  | set2D
  /-- `SET 2,E`, CB D3, R215. -/
  | set2E
  /-- `SET 2,H`, CB D4, R215. -/
  | set2H
  /-- `SET 2,L`, CB D5, R215. -/
  | set2L
  /-- `SET 2,(HL)`, CB D6, R215. -/
  | set2IndHl
  /-- `SET 2,A`, CB D7, R215. -/
  | set2A
  /-- `SET 3,B`, CB D8, R215. -/
  | set3B
  /-- `SET 3,C`, CB D9, R215. -/
  | set3C
  /-- `SET 3,D`, CB DA, R215. -/
  | set3D
  /-- `SET 3,E`, CB DB, R215. -/
  | set3E
  /-- `SET 3,H`, CB DC, R215. -/
  | set3H
  /-- `SET 3,L`, CB DD, R215. -/
  | set3L
  /-- `SET 3,(HL)`, CB DE, R215. -/
  | set3IndHl
  /-- `SET 3,A`, CB DF, R215. -/
  | set3A
  /-- `SET 4,B`, CB E0, R215. -/
  | set4B
  /-- `SET 4,C`, CB E1, R215. -/
  | set4C
  /-- `SET 4,D`, CB E2, R215. -/
  | set4D
  /-- `SET 4,E`, CB E3, R215. -/
  | set4E
  /-- `SET 4,H`, CB E4, R215. -/
  | set4H
  /-- `SET 4,L`, CB E5, R215. -/
  | set4L
  /-- `SET 4,(HL)`, CB E6, R215. -/
  | set4IndHl
  /-- `SET 4,A`, CB E7, R215. -/
  | set4A
  /-- `SET 5,B`, CB E8, R215. -/
  | set5B
  /-- `SET 5,C`, CB E9, R215. -/
  | set5C
  /-- `SET 5,D`, CB EA, R215. -/
  | set5D
  /-- `SET 5,E`, CB EB, R215. -/
  | set5E
  /-- `SET 5,H`, CB EC, R215. -/
  | set5H
  /-- `SET 5,L`, CB ED, R215. -/
  | set5L
  /-- `SET 5,(HL)`, CB EE, R215. -/
  | set5IndHl
  /-- `SET 5,A`, CB EF, R215. -/
  | set5A
  /-- `SET 6,B`, CB F0, R215. -/
  | set6B
  /-- `SET 6,C`, CB F1, R215. -/
  | set6C
  /-- `SET 6,D`, CB F2, R215. -/
  | set6D
  /-- `SET 6,E`, CB F3, R215. -/
  | set6E
  /-- `SET 6,H`, CB F4, R215. -/
  | set6H
  /-- `SET 6,L`, CB F5, R215. -/
  | set6L
  /-- `SET 6,(HL)`, CB F6, R215. -/
  | set6IndHl
  /-- `SET 6,A`, CB F7, R215. -/
  | set6A
  /-- `SET 7,B`, CB F8, R215. -/
  | set7B
  /-- `SET 7,C`, CB F9, R215. -/
  | set7C
  /-- `SET 7,D`, CB FA, R215. -/
  | set7D
  /-- `SET 7,E`, CB FB, R215. -/
  | set7E
  /-- `SET 7,H`, CB FC, R215. -/
  | set7H
  /-- `SET 7,L`, CB FD, R215. -/
  | set7L
  /-- `SET 7,(HL)`, CB FE, R215. -/
  | set7IndHl
  /-- `SET 7,A`, CB FF, R215. -/
  | set7A
deriving DecidableEq, Repr

end Sys2Proof
end

