-- ==== Sys2Proof/WellFormed.lean ====
section
/-! DEFINITION. Which instructions are well-formed. Every operand's range is already its type's, so there are two checks:
the byte an ILLEGAL carries is one of the eleven of R110, and the prefix byte's own row is no instruction (R109: "Byte
0xCB is not an instruction: it and the byte after it form one 2-byte instruction"). -/

namespace Sys2Proof

/-- The eleven first bytes that encode no instruction (R110). -/
def illegalBytes : List Byte :=
  [0xD3, 0xDB, 0xDD, 0xE3, 0xE4, 0xEB, 0xEC, 0xED, 0xF4, 0xFC, 0xFD]

/-- Well-formedness. Both checks concern one constructor each; every other instruction is well-formed whatever its
operands. -/
def Instr.wellFormed (i : Instr) : Bool :=
  match i with
  | .illegal b0 => illegalBytes.contains b0
  | .prefixCb _ => false
  | _ => true

end Sys2Proof
end

