-- ==== Sys2Proof/Decode.lean ====
section
/-! DEFINITION. The decoder, total on any bytes (R100 to R113), and after it the encoder. The decoder goes by the fields x,
y, z of an opcode byte (R101) as the instruction rules give their encodings; the encoder is one row per constructor,
the bytes of the opcode maps (R107, R108, spec/opcode_table.json). The functions in between name an instruction by its
family and operands. -/

namespace Sys2Proof

/-! ### Byte order of a 16-bit quantity (R65, R106) -/

/-- The low byte of a word. -/
def lowByte (w : Word) : Byte := BitVec.ofNat 8 w.toNat

/-- The high byte of a word. -/
def highByte (w : Word) : Byte := BitVec.ofNat 8 (w.toNat / 256)

/-- The word `{hi, lo}`, that is `(hi << 8) | lo` (R8). -/
def joinBytes (hi lo : Byte) : Word := BitVec.ofNat 16 (256 * hi.toNat + lo.toNat)

/-! ### Families: the constructor for an operation and its operands -/

/-- `LD r,r'` (R140). -/
def loadRegReg (dst src : Reg8) : Instr :=
  match dst, src with
  | .b, .b => .ldBB | .b, .c => .ldBC | .b, .d => .ldBD | .b, .e => .ldBE | .b, .h => .ldBH | .b, .l => .ldBL | .b, .a => .ldBA
  | .c, .b => .ldCB | .c, .c => .ldCC | .c, .d => .ldCD | .c, .e => .ldCE | .c, .h => .ldCH | .c, .l => .ldCL | .c, .a => .ldCA
  | .d, .b => .ldDB | .d, .c => .ldDC | .d, .d => .ldDD | .d, .e => .ldDE | .d, .h => .ldDH | .d, .l => .ldDL | .d, .a => .ldDA
  | .e, .b => .ldEB | .e, .c => .ldEC | .e, .d => .ldED | .e, .e => .ldEE | .e, .h => .ldEH | .e, .l => .ldEL | .e, .a => .ldEA
  | .h, .b => .ldHB | .h, .c => .ldHC | .h, .d => .ldHD | .h, .e => .ldHE | .h, .h => .ldHH | .h, .l => .ldHL | .h, .a => .ldHA
  | .l, .b => .ldLB | .l, .c => .ldLC | .l, .d => .ldLD | .l, .e => .ldLE | .l, .h => .ldLH | .l, .l => .ldLL | .l, .a => .ldLA
  | .a, .b => .ldAB | .a, .c => .ldAC | .a, .d => .ldAD | .a, .e => .ldAE | .a, .h => .ldAH | .a, .l => .ldAL | .a, .a => .ldAA

/-- `LD r,n8` (R141). -/
def loadRegImm (dst : Reg8) (n8 : Byte) : Instr :=
  match dst with
  | .b => .ldBN8 n8
  | .c => .ldCN8 n8
  | .d => .ldDN8 n8
  | .e => .ldEN8 n8
  | .h => .ldHN8 n8
  | .l => .ldLN8 n8
  | .a => .ldAN8 n8

/-- `LD r,(HL)` (R142). -/
def loadRegMem (dst : Reg8) : Instr :=
  match dst with
  | .b => .ldBIndHl
  | .c => .ldCIndHl
  | .d => .ldDIndHl
  | .e => .ldEIndHl
  | .h => .ldHIndHl
  | .l => .ldLIndHl
  | .a => .ldAIndHl

/-- `LD (HL),r` (R143). -/
def storeMemReg (src : Reg8) : Instr :=
  match src with
  | .b => .ldIndHlB
  | .c => .ldIndHlC
  | .d => .ldIndHlD
  | .e => .ldIndHlE
  | .h => .ldIndHlH
  | .l => .ldIndHlL
  | .a => .ldIndHlA

/-- `LD rp,n16` (R160). -/
def loadPairImm (p : Pair) (n16 : Word) : Instr :=
  match p with
  | .bc => .ldBcN16 n16
  | .de => .ldDeN16 n16
  | .hl => .ldHlN16 n16
  | .sp => .ldSpN16 n16

/-- `ADD HL,rp` (R190). -/
def addHlPair (p : Pair) : Instr :=
  match p with
  | .bc => .addHlBc
  | .de => .addHlDe
  | .hl => .addHlHl
  | .sp => .addHlSp

/-- `INC rp` (R191). -/
def incPair (p : Pair) : Instr :=
  match p with
  | .bc => .incBc
  | .de => .incDe
  | .hl => .incHl
  | .sp => .incSp

/-- `DEC rp` (R192). -/
def decPair (p : Pair) : Instr :=
  match p with
  | .bc => .decBc
  | .de => .decDe
  | .hl => .decHl
  | .sp => .decSp

/-- `PUSH rp2` (R163). -/
def pushPair (p : StackPair) : Instr :=
  match p with
  | .bc => .pushBc
  | .de => .pushDe
  | .hl => .pushHl
  | .af => .pushAf

/-- `POP rp2` (R164). -/
def popPair (p : StackPair) : Instr :=
  match p with
  | .bc => .popBc
  | .de => .popDe
  | .hl => .popHl
  | .af => .popAf

/-- `INC r` and `INC (HL)` (R179, R180). -/
def incTarget (t : Target) : Instr :=
  match t with
  | .reg .b => .incB
  | .reg .c => .incC
  | .reg .d => .incD
  | .reg .e => .incE
  | .reg .h => .incH
  | .reg .l => .incL
  | .reg .a => .incA
  | .atHl => .incIndHl

/-- `DEC r` and `DEC (HL)` (R181, R182). -/
def decTarget (t : Target) : Instr :=
  match t with
  | .reg .b => .decB
  | .reg .c => .decC
  | .reg .d => .decD
  | .reg .e => .decE
  | .reg .h => .decH
  | .reg .l => .decL
  | .reg .a => .decA
  | .atHl => .decIndHl

/-- The 8-bit ALU group: operation and source operand (R105, R170). -/
def aluInstr (op : AluOp) (src : AluSrc) : Instr :=
  match op, src with
  | .add, .reg .b => .addAB | .add, .reg .c => .addAC | .add, .reg .d => .addAD | .add, .reg .e => .addAE
  | .add, .reg .h => .addAH | .add, .reg .l => .addAL | .add, .reg .a => .addAA | .add, .atHl => .addAIndHl | .add, .imm n8 => .addAN8 n8
  | .adc, .reg .b => .adcAB | .adc, .reg .c => .adcAC | .adc, .reg .d => .adcAD | .adc, .reg .e => .adcAE
  | .adc, .reg .h => .adcAH | .adc, .reg .l => .adcAL | .adc, .reg .a => .adcAA | .adc, .atHl => .adcAIndHl | .adc, .imm n8 => .adcAN8 n8
  | .sub, .reg .b => .subB | .sub, .reg .c => .subC | .sub, .reg .d => .subD | .sub, .reg .e => .subE
  | .sub, .reg .h => .subH | .sub, .reg .l => .subL | .sub, .reg .a => .subA | .sub, .atHl => .subIndHl | .sub, .imm n8 => .subN8 n8
  | .sbc, .reg .b => .sbcAB | .sbc, .reg .c => .sbcAC | .sbc, .reg .d => .sbcAD | .sbc, .reg .e => .sbcAE
  | .sbc, .reg .h => .sbcAH | .sbc, .reg .l => .sbcAL | .sbc, .reg .a => .sbcAA | .sbc, .atHl => .sbcAIndHl | .sbc, .imm n8 => .sbcAN8 n8
  | .and, .reg .b => .andB | .and, .reg .c => .andC | .and, .reg .d => .andD | .and, .reg .e => .andE
  | .and, .reg .h => .andH | .and, .reg .l => .andL | .and, .reg .a => .andA | .and, .atHl => .andIndHl | .and, .imm n8 => .andN8 n8
  | .xor, .reg .b => .xorB | .xor, .reg .c => .xorC | .xor, .reg .d => .xorD | .xor, .reg .e => .xorE
  | .xor, .reg .h => .xorH | .xor, .reg .l => .xorL | .xor, .reg .a => .xorA | .xor, .atHl => .xorIndHl | .xor, .imm n8 => .xorN8 n8
  | .or, .reg .b => .orB | .or, .reg .c => .orC | .or, .reg .d => .orD | .or, .reg .e => .orE
  | .or, .reg .h => .orH | .or, .reg .l => .orL | .or, .reg .a => .orA | .or, .atHl => .orIndHl | .or, .imm n8 => .orN8 n8
  | .cp, .reg .b => .cpB | .cp, .reg .c => .cpC | .cp, .reg .d => .cpD | .cp, .reg .e => .cpE
  | .cp, .reg .h => .cpH | .cp, .reg .l => .cpL | .cp, .reg .a => .cpA | .cp, .atHl => .cpIndHl | .cp, .imm n8 => .cpN8 n8

/-- The prefixed rotates and shifts (R105, R204 to R212). -/
def rotInstr (op : RotOp) (t : Target) : Instr :=
  match op, t with
  | .rlc, .reg .b => .rlcB | .rlc, .reg .c => .rlcC | .rlc, .reg .d => .rlcD | .rlc, .reg .e => .rlcE
  | .rlc, .reg .h => .rlcH | .rlc, .reg .l => .rlcL | .rlc, .reg .a => .rlcA | .rlc, .atHl => .rlcIndHl
  | .rrc, .reg .b => .rrcB | .rrc, .reg .c => .rrcC | .rrc, .reg .d => .rrcD | .rrc, .reg .e => .rrcE
  | .rrc, .reg .h => .rrcH | .rrc, .reg .l => .rrcL | .rrc, .reg .a => .rrcA | .rrc, .atHl => .rrcIndHl
  | .rl, .reg .b => .rlB | .rl, .reg .c => .rlC | .rl, .reg .d => .rlD | .rl, .reg .e => .rlE
  | .rl, .reg .h => .rlH | .rl, .reg .l => .rlL | .rl, .reg .a => .rlA | .rl, .atHl => .rlIndHl
  | .rr, .reg .b => .rrB | .rr, .reg .c => .rrC | .rr, .reg .d => .rrD | .rr, .reg .e => .rrE
  | .rr, .reg .h => .rrH | .rr, .reg .l => .rrL | .rr, .reg .a => .rrA | .rr, .atHl => .rrIndHl
  | .sla, .reg .b => .slaB | .sla, .reg .c => .slaC | .sla, .reg .d => .slaD | .sla, .reg .e => .slaE
  | .sla, .reg .h => .slaH | .sla, .reg .l => .slaL | .sla, .reg .a => .slaA | .sla, .atHl => .slaIndHl
  | .sra, .reg .b => .sraB | .sra, .reg .c => .sraC | .sra, .reg .d => .sraD | .sra, .reg .e => .sraE
  | .sra, .reg .h => .sraH | .sra, .reg .l => .sraL | .sra, .reg .a => .sraA | .sra, .atHl => .sraIndHl
  | .swap, .reg .b => .swapB | .swap, .reg .c => .swapC | .swap, .reg .d => .swapD | .swap, .reg .e => .swapE
  | .swap, .reg .h => .swapH | .swap, .reg .l => .swapL | .swap, .reg .a => .swapA | .swap, .atHl => .swapIndHl
  | .srl, .reg .b => .srlB | .srl, .reg .c => .srlC | .srl, .reg .d => .srlD | .srl, .reg .e => .srlE
  | .srl, .reg .h => .srlH | .srl, .reg .l => .srlL | .srl, .reg .a => .srlA | .srl, .atHl => .srlIndHl

/-- `BIT b,t` (R213), the bit number first. -/
def bitInstr (n : Fin 8) (t : Target) : Instr :=
  match n, t with
  | 0, .reg .b => .bit0B | 0, .reg .c => .bit0C | 0, .reg .d => .bit0D | 0, .reg .e => .bit0E
  | 0, .reg .h => .bit0H | 0, .reg .l => .bit0L | 0, .reg .a => .bit0A | 0, .atHl => .bit0IndHl
  | 1, .reg .b => .bit1B | 1, .reg .c => .bit1C | 1, .reg .d => .bit1D | 1, .reg .e => .bit1E
  | 1, .reg .h => .bit1H | 1, .reg .l => .bit1L | 1, .reg .a => .bit1A | 1, .atHl => .bit1IndHl
  | 2, .reg .b => .bit2B | 2, .reg .c => .bit2C | 2, .reg .d => .bit2D | 2, .reg .e => .bit2E
  | 2, .reg .h => .bit2H | 2, .reg .l => .bit2L | 2, .reg .a => .bit2A | 2, .atHl => .bit2IndHl
  | 3, .reg .b => .bit3B | 3, .reg .c => .bit3C | 3, .reg .d => .bit3D | 3, .reg .e => .bit3E
  | 3, .reg .h => .bit3H | 3, .reg .l => .bit3L | 3, .reg .a => .bit3A | 3, .atHl => .bit3IndHl
  | 4, .reg .b => .bit4B | 4, .reg .c => .bit4C | 4, .reg .d => .bit4D | 4, .reg .e => .bit4E
  | 4, .reg .h => .bit4H | 4, .reg .l => .bit4L | 4, .reg .a => .bit4A | 4, .atHl => .bit4IndHl
  | 5, .reg .b => .bit5B | 5, .reg .c => .bit5C | 5, .reg .d => .bit5D | 5, .reg .e => .bit5E
  | 5, .reg .h => .bit5H | 5, .reg .l => .bit5L | 5, .reg .a => .bit5A | 5, .atHl => .bit5IndHl
  | 6, .reg .b => .bit6B | 6, .reg .c => .bit6C | 6, .reg .d => .bit6D | 6, .reg .e => .bit6E
  | 6, .reg .h => .bit6H | 6, .reg .l => .bit6L | 6, .reg .a => .bit6A | 6, .atHl => .bit6IndHl
  | 7, .reg .b => .bit7B | 7, .reg .c => .bit7C | 7, .reg .d => .bit7D | 7, .reg .e => .bit7E
  | 7, .reg .h => .bit7H | 7, .reg .l => .bit7L | 7, .reg .a => .bit7A | 7, .atHl => .bit7IndHl

/-- `RES b,t` (R214), the bit number first. -/
def resInstr (n : Fin 8) (t : Target) : Instr :=
  match n, t with
  | 0, .reg .b => .res0B | 0, .reg .c => .res0C | 0, .reg .d => .res0D | 0, .reg .e => .res0E
  | 0, .reg .h => .res0H | 0, .reg .l => .res0L | 0, .reg .a => .res0A | 0, .atHl => .res0IndHl
  | 1, .reg .b => .res1B | 1, .reg .c => .res1C | 1, .reg .d => .res1D | 1, .reg .e => .res1E
  | 1, .reg .h => .res1H | 1, .reg .l => .res1L | 1, .reg .a => .res1A | 1, .atHl => .res1IndHl
  | 2, .reg .b => .res2B | 2, .reg .c => .res2C | 2, .reg .d => .res2D | 2, .reg .e => .res2E
  | 2, .reg .h => .res2H | 2, .reg .l => .res2L | 2, .reg .a => .res2A | 2, .atHl => .res2IndHl
  | 3, .reg .b => .res3B | 3, .reg .c => .res3C | 3, .reg .d => .res3D | 3, .reg .e => .res3E
  | 3, .reg .h => .res3H | 3, .reg .l => .res3L | 3, .reg .a => .res3A | 3, .atHl => .res3IndHl
  | 4, .reg .b => .res4B | 4, .reg .c => .res4C | 4, .reg .d => .res4D | 4, .reg .e => .res4E
  | 4, .reg .h => .res4H | 4, .reg .l => .res4L | 4, .reg .a => .res4A | 4, .atHl => .res4IndHl
  | 5, .reg .b => .res5B | 5, .reg .c => .res5C | 5, .reg .d => .res5D | 5, .reg .e => .res5E
  | 5, .reg .h => .res5H | 5, .reg .l => .res5L | 5, .reg .a => .res5A | 5, .atHl => .res5IndHl
  | 6, .reg .b => .res6B | 6, .reg .c => .res6C | 6, .reg .d => .res6D | 6, .reg .e => .res6E
  | 6, .reg .h => .res6H | 6, .reg .l => .res6L | 6, .reg .a => .res6A | 6, .atHl => .res6IndHl
  | 7, .reg .b => .res7B | 7, .reg .c => .res7C | 7, .reg .d => .res7D | 7, .reg .e => .res7E
  | 7, .reg .h => .res7H | 7, .reg .l => .res7L | 7, .reg .a => .res7A | 7, .atHl => .res7IndHl

/-- `SET b,t` (R215), the bit number first. -/
def setInstr (n : Fin 8) (t : Target) : Instr :=
  match n, t with
  | 0, .reg .b => .set0B | 0, .reg .c => .set0C | 0, .reg .d => .set0D | 0, .reg .e => .set0E
  | 0, .reg .h => .set0H | 0, .reg .l => .set0L | 0, .reg .a => .set0A | 0, .atHl => .set0IndHl
  | 1, .reg .b => .set1B | 1, .reg .c => .set1C | 1, .reg .d => .set1D | 1, .reg .e => .set1E
  | 1, .reg .h => .set1H | 1, .reg .l => .set1L | 1, .reg .a => .set1A | 1, .atHl => .set1IndHl
  | 2, .reg .b => .set2B | 2, .reg .c => .set2C | 2, .reg .d => .set2D | 2, .reg .e => .set2E
  | 2, .reg .h => .set2H | 2, .reg .l => .set2L | 2, .reg .a => .set2A | 2, .atHl => .set2IndHl
  | 3, .reg .b => .set3B | 3, .reg .c => .set3C | 3, .reg .d => .set3D | 3, .reg .e => .set3E
  | 3, .reg .h => .set3H | 3, .reg .l => .set3L | 3, .reg .a => .set3A | 3, .atHl => .set3IndHl
  | 4, .reg .b => .set4B | 4, .reg .c => .set4C | 4, .reg .d => .set4D | 4, .reg .e => .set4E
  | 4, .reg .h => .set4H | 4, .reg .l => .set4L | 4, .reg .a => .set4A | 4, .atHl => .set4IndHl
  | 5, .reg .b => .set5B | 5, .reg .c => .set5C | 5, .reg .d => .set5D | 5, .reg .e => .set5E
  | 5, .reg .h => .set5H | 5, .reg .l => .set5L | 5, .reg .a => .set5A | 5, .atHl => .set5IndHl
  | 6, .reg .b => .set6B | 6, .reg .c => .set6C | 6, .reg .d => .set6D | 6, .reg .e => .set6E
  | 6, .reg .h => .set6H | 6, .reg .l => .set6L | 6, .reg .a => .set6A | 6, .atHl => .set6IndHl
  | 7, .reg .b => .set7B | 7, .reg .c => .set7C | 7, .reg .d => .set7D | 7, .reg .e => .set7E
  | 7, .reg .h => .set7H | 7, .reg .l => .set7L | 7, .reg .a => .set7A | 7, .atHl => .set7IndHl

/-- `JR cc,e8` (R224). -/
def jumpRelIf (cc : Cond) (e8 : Byte) : Instr :=
  match cc with
  | .nz => .jrNzE8 e8
  | .z => .jrZE8 e8
  | .nc => .jrNcE8 e8
  | .c => .jrCE8 e8

/-- `JP cc,n16` (R221). -/
def jumpIf (cc : Cond) (n16 : Word) : Instr :=
  match cc with
  | .nz => .jpNzN16 n16
  | .z => .jpZN16 n16
  | .nc => .jpNcN16 n16
  | .c => .jpCN16 n16

/-- `CALL cc,n16` (R226). -/
def callIf (cc : Cond) (n16 : Word) : Instr :=
  match cc with
  | .nz => .callNzN16 n16
  | .z => .callZN16 n16
  | .nc => .callNcN16 n16
  | .c => .callCN16 n16

/-- `RET cc` (R228). -/
def returnIf (cc : Cond) : Instr :=
  match cc with
  | .nz => .retNz
  | .z => .retZ
  | .nc => .retNc
  | .c => .retC

/-- `RST t` with target `y * 8` (R230). -/
def restart (y : Fin 8) : Instr :=
  match y with
  | 0 => .rst00
  | 1 => .rst08
  | 2 => .rst10
  | 3 => .rst18
  | 4 => .rst20
  | 5 => .rst28
  | 6 => .rst30
  | 7 => .rst38

/-! ### Fields and codes (R101, R103 to R105) -/

/-- `x = op[7:6]` (R101). -/
def fieldX (op : Byte) : Nat := op.toNat / 64

/-- `y = op[5:3]` (R101). -/
def fieldY (op : Byte) : Nat := op.toNat / 8 % 8

/-- `z = op[2:0]` (R101). -/
def fieldZ (op : Byte) : Nat := op.toNat % 8

/-- The register code `r` (R103): code 6 is the byte at HL. -/
def targetOf (code : Nat) : Target :=
  match code with
  | 0 => .reg .b | 1 => .reg .c | 2 => .reg .d | 3 => .reg .e | 4 => .reg .h | 5 => .reg .l | 6 => .atHl | _ => .reg .a

/-- The pair code `rp` (R103). -/
def pairOf (p : Nat) : Pair :=
  match p with
  | 0 => .bc | 1 => .de | 2 => .hl | _ => .sp

/-- The pair code `rp2` (R103). -/
def stackPairOf (p : Nat) : StackPair :=
  match p with
  | 0 => .bc | 1 => .de | 2 => .hl | _ => .af

/-- The condition code (R104). -/
def condOf (code : Nat) : Cond :=
  match code with
  | 0 => .nz | 1 => .z | 2 => .nc | _ => .c

/-- The ALU operation code (R105). -/
def aluOpOf (y : Nat) : AluOp :=
  match y with
  | 0 => .add | 1 => .adc | 2 => .sub | 3 => .sbc | 4 => .and | 5 => .xor | 6 => .or | _ => .cp

/-- The rotate and shift operation code (R105). -/
def rotOpOf (y : Nat) : RotOp :=
  match y with
  | 0 => .rlc | 1 => .rrc | 2 => .rl | 3 => .rr | 4 => .sla | 5 => .sra | 6 => .swap | _ => .srl

/-- A bit number or an RST number from the field `y`. -/
def bitOf (y : Nat) : Fin 8 := Fin.ofNat 8 y

/-- The ALU source that a register code selects (R170). -/
def srcOf (code : Nat) : AluSrc :=
  match targetOf code with
  | .reg r => .reg r
  | .atHl => .atHl

/-! ### The decoder -/

/-- `LD` between two register codes, neither pair of them both 6 (R140, R142, R143). Codes 6 and 6 are HALT (R241). -/
def loadOf (dst src : Target) : Instr :=
  match dst, src with
  | .reg r, .reg r' => loadRegReg r r'
  | .reg r, .atHl => loadRegMem r
  | .atHl, .reg r => storeMemReg r
  | .atHl, .atHl => .halt

/-- The extended map: the second byte after 0xCB (R108). Every byte is an instruction. -/
def decodeExtended (b1 : Byte) : Instr :=
  let y := fieldY b1
  let t := targetOf (fieldZ b1)
  match fieldX b1 with
  | 0 => rotInstr (rotOpOf y) t
  | 1 => bitInstr (bitOf y) t
  | 2 => resInstr (bitOf y) t
  | _ => setInstr (bitOf y) t

/-- Quarter `x = 0` of the unprefixed map (R107). -/
def decodeX0 (y z : Nat) (n8 : Byte) (n16 : Word) : Instr :=
  match z with
  | 0 =>
    match y with
    | 0 => .nop
    | 1 => .ldMemSp n16
    | 2 => .stop n8
    | 3 => .jrE8 n8
    | _ => jumpRelIf (condOf (y - 4)) n8
  | 1 => if y % 2 = 0 then loadPairImm (pairOf (y / 2)) n16 else addHlPair (pairOf (y / 2))
  | 2 =>
    match y with
    | 0 => .ldIndBcA
    | 1 => .ldAIndBc
    | 2 => .ldIndDeA
    | 3 => .ldAIndDe
    | 4 => .ldHliA
    | 5 => .ldAHli
    | 6 => .ldHldA
    | _ => .ldAHld
  | 3 => if y % 2 = 0 then incPair (pairOf (y / 2)) else decPair (pairOf (y / 2))
  | 4 => incTarget (targetOf y)
  | 5 => decTarget (targetOf y)
  | 6 =>
    match targetOf y with
    | .reg r => loadRegImm r n8
    | .atHl => .ldIndHlN8 n8
  | _ =>
    match y with
    | 0 => .rlca
    | 1 => .rrca
    | 2 => .rla
    | 3 => .rra
    | 4 => .daa
    | 5 => .cpl
    | 6 => .scf
    | _ => .ccf

/-- Quarter `x = 3` of the unprefixed map (R107); `b0` is the opcode byte itself, kept by an illegal one (R110). -/
def decodeX3 (b0 : Byte) (y z : Nat) (n8 : Byte) (n16 : Word) : Instr :=
  match z with
  | 0 =>
    match y with
    | 4 => .ldhMemA n8
    | 5 => .addSpE8 n8
    | 6 => .ldhAMem n8
    | 7 => .ldHlSpE8 n8
    | _ => returnIf (condOf y)
  | 1 =>
    match y with
    | 1 => .ret
    | 3 => .reti
    | 5 => .jpHl
    | 7 => .ldSpHl
    | _ => popPair (stackPairOf (y / 2))
  | 2 =>
    match y with
    | 4 => .ldHighCA
    | 5 => .ldMemA n16
    | 6 => .ldAHighC
    | 7 => .ldAMem n16
    | _ => jumpIf (condOf y) n16
  | 3 =>
    match y with
    | 0 => .jpN16 n16
    | 1 => decodeExtended n8
    | 6 => .di
    | 7 => .ei
    | _ => .illegal b0
  | 4 => if y < 4 then callIf (condOf y) n16 else .illegal b0
  | 5 =>
    if y % 2 = 0 then pushPair (stackPairOf (y / 2))
    else if y = 1 then .callN16 n16
    else .illegal b0
  | 6 => aluInstr (aluOpOf y) (.imm n8)
  | _ => restart (bitOf y)

/-- The instruction that three bytes at increasing addresses begin with (R107 to R110, R113). Total: every first byte is a
row of the table. A byte past the instruction's length is not looked at. -/
def decodeBytes (b0 b1 b2 : Byte) : Instr :=
  let y := fieldY b0
  let z := fieldZ b0
  let n16 := joinBytes b2 b1
  match fieldX b0 with
  | 0 => decodeX0 y z b1 n16
  | 1 => loadOf (targetOf y) (targetOf z)
  | 2 => aluInstr (aluOpOf y) (srcOf z)
  | _ => decodeX3 b0 y z b1 n16

/-- The length in bytes, from the first byte alone (R109): 2 for 0xCB, for STOP and for every opcode with an `n8` or `e8`;
3 for every opcode with an `n16`; 1 otherwise. -/
def instrLength (b0 : Byte) : Nat :=
  let y := fieldY b0
  let z := fieldZ b0
  match fieldX b0 with
  | 0 =>
    match z with
    | 0 => if y = 0 then 1 else if y = 1 then 3 else 2
    | 1 => if y % 2 = 0 then 3 else 1
    | 6 => 2
    | _ => 1
  | 1 => 1
  | 2 => 1
  | _ =>
    match z with
    | 0 => if y < 4 then 1 else 2
    | 2 => if y < 4 then 3 else if y % 2 = 1 then 3 else 1
    | 3 => if y = 0 then 3 else if y = 1 then 2 else 1
    | 4 => if y < 4 then 3 else 1
    | 5 => if y = 1 then 3 else 1
    | 6 => 2
    | _ => 1

/-- Why a list of bytes gives no instruction. -/
inductive DecodeError where
  /-- No byte at all. -/
  | noBytes
  /-- The first byte announces more bytes (R109) than there are. -/
  | truncated (b0 : Byte)
deriving DecidableEq, Repr

/-- The instruction a list of bytes begins with, and the bytes after it. It answers for every list that holds the bytes the
first one announces; a byte that encodes no instruction decodes to its row ILLEGAL of the table (C8, R113), whose meaning
is the fault of R245. -/
def decode (bytes : List Byte) : Except DecodeError (Instr × List Byte) :=
  match bytes with
  | [] => .error .noBytes
  | b0 :: rest =>
    if rest.length + 1 < instrLength b0 then .error (.truncated b0)
    else .ok (decodeBytes b0 (rest.getD 0 0) (rest.getD 1 0), rest.drop (instrLength b0 - 1))

/-! ### The encoder: one row per constructor, from the opcode maps (R107, R108) -/

/-- The bytes of an instruction, at increasing addresses (R100, R106). -/
def encode (i : Instr) : List Byte :=
  match i with
  | .nop => [0x00]
  | .ldBcN16 n16 => [0x01, lowByte n16, highByte n16]
  | .ldIndBcA => [0x02]
  | .incBc => [0x03]
  | .incB => [0x04]
  | .decB => [0x05]
  | .ldBN8 n8 => [0x06, n8]
  | .rlca => [0x07]
  | .ldMemSp n16 => [0x08, lowByte n16, highByte n16]
  | .addHlBc => [0x09]
  | .ldAIndBc => [0x0A]
  | .decBc => [0x0B]
  | .incC => [0x0C]
  | .decC => [0x0D]
  | .ldCN8 n8 => [0x0E, n8]
  | .rrca => [0x0F]
  | .stop n8 => [0x10, n8]
  | .ldDeN16 n16 => [0x11, lowByte n16, highByte n16]
  | .ldIndDeA => [0x12]
  | .incDe => [0x13]
  | .incD => [0x14]
  | .decD => [0x15]
  | .ldDN8 n8 => [0x16, n8]
  | .rla => [0x17]
  | .jrE8 e8 => [0x18, e8]
  | .addHlDe => [0x19]
  | .ldAIndDe => [0x1A]
  | .decDe => [0x1B]
  | .incE => [0x1C]
  | .decE => [0x1D]
  | .ldEN8 n8 => [0x1E, n8]
  | .rra => [0x1F]
  | .jrNzE8 e8 => [0x20, e8]
  | .ldHlN16 n16 => [0x21, lowByte n16, highByte n16]
  | .ldHliA => [0x22]
  | .incHl => [0x23]
  | .incH => [0x24]
  | .decH => [0x25]
  | .ldHN8 n8 => [0x26, n8]
  | .daa => [0x27]
  | .jrZE8 e8 => [0x28, e8]
  | .addHlHl => [0x29]
  | .ldAHli => [0x2A]
  | .decHl => [0x2B]
  | .incL => [0x2C]
  | .decL => [0x2D]
  | .ldLN8 n8 => [0x2E, n8]
  | .cpl => [0x2F]
  | .jrNcE8 e8 => [0x30, e8]
  | .ldSpN16 n16 => [0x31, lowByte n16, highByte n16]
  | .ldHldA => [0x32]
  | .incSp => [0x33]
  | .incIndHl => [0x34]
  | .decIndHl => [0x35]
  | .ldIndHlN8 n8 => [0x36, n8]
  | .scf => [0x37]
  | .jrCE8 e8 => [0x38, e8]
  | .addHlSp => [0x39]
  | .ldAHld => [0x3A]
  | .decSp => [0x3B]
  | .incA => [0x3C]
  | .decA => [0x3D]
  | .ldAN8 n8 => [0x3E, n8]
  | .ccf => [0x3F]
  | .ldBB => [0x40]
  | .ldBC => [0x41]
  | .ldBD => [0x42]
  | .ldBE => [0x43]
  | .ldBH => [0x44]
  | .ldBL => [0x45]
  | .ldBIndHl => [0x46]
  | .ldBA => [0x47]
  | .ldCB => [0x48]
  | .ldCC => [0x49]
  | .ldCD => [0x4A]
  | .ldCE => [0x4B]
  | .ldCH => [0x4C]
  | .ldCL => [0x4D]
  | .ldCIndHl => [0x4E]
  | .ldCA => [0x4F]
  | .ldDB => [0x50]
  | .ldDC => [0x51]
  | .ldDD => [0x52]
  | .ldDE => [0x53]
  | .ldDH => [0x54]
  | .ldDL => [0x55]
  | .ldDIndHl => [0x56]
  | .ldDA => [0x57]
  | .ldEB => [0x58]
  | .ldEC => [0x59]
  | .ldED => [0x5A]
  | .ldEE => [0x5B]
  | .ldEH => [0x5C]
  | .ldEL => [0x5D]
  | .ldEIndHl => [0x5E]
  | .ldEA => [0x5F]
  | .ldHB => [0x60]
  | .ldHC => [0x61]
  | .ldHD => [0x62]
  | .ldHE => [0x63]
  | .ldHH => [0x64]
  | .ldHL => [0x65]
  | .ldHIndHl => [0x66]
  | .ldHA => [0x67]
  | .ldLB => [0x68]
  | .ldLC => [0x69]
  | .ldLD => [0x6A]
  | .ldLE => [0x6B]
  | .ldLH => [0x6C]
  | .ldLL => [0x6D]
  | .ldLIndHl => [0x6E]
  | .ldLA => [0x6F]
  | .ldIndHlB => [0x70]
  | .ldIndHlC => [0x71]
  | .ldIndHlD => [0x72]
  | .ldIndHlE => [0x73]
  | .ldIndHlH => [0x74]
  | .ldIndHlL => [0x75]
  | .halt => [0x76]
  | .ldIndHlA => [0x77]
  | .ldAB => [0x78]
  | .ldAC => [0x79]
  | .ldAD => [0x7A]
  | .ldAE => [0x7B]
  | .ldAH => [0x7C]
  | .ldAL => [0x7D]
  | .ldAIndHl => [0x7E]
  | .ldAA => [0x7F]
  | .addAB => [0x80]
  | .addAC => [0x81]
  | .addAD => [0x82]
  | .addAE => [0x83]
  | .addAH => [0x84]
  | .addAL => [0x85]
  | .addAIndHl => [0x86]
  | .addAA => [0x87]
  | .adcAB => [0x88]
  | .adcAC => [0x89]
  | .adcAD => [0x8A]
  | .adcAE => [0x8B]
  | .adcAH => [0x8C]
  | .adcAL => [0x8D]
  | .adcAIndHl => [0x8E]
  | .adcAA => [0x8F]
  | .subB => [0x90]
  | .subC => [0x91]
  | .subD => [0x92]
  | .subE => [0x93]
  | .subH => [0x94]
  | .subL => [0x95]
  | .subIndHl => [0x96]
  | .subA => [0x97]
  | .sbcAB => [0x98]
  | .sbcAC => [0x99]
  | .sbcAD => [0x9A]
  | .sbcAE => [0x9B]
  | .sbcAH => [0x9C]
  | .sbcAL => [0x9D]
  | .sbcAIndHl => [0x9E]
  | .sbcAA => [0x9F]
  | .andB => [0xA0]
  | .andC => [0xA1]
  | .andD => [0xA2]
  | .andE => [0xA3]
  | .andH => [0xA4]
  | .andL => [0xA5]
  | .andIndHl => [0xA6]
  | .andA => [0xA7]
  | .xorB => [0xA8]
  | .xorC => [0xA9]
  | .xorD => [0xAA]
  | .xorE => [0xAB]
  | .xorH => [0xAC]
  | .xorL => [0xAD]
  | .xorIndHl => [0xAE]
  | .xorA => [0xAF]
  | .orB => [0xB0]
  | .orC => [0xB1]
  | .orD => [0xB2]
  | .orE => [0xB3]
  | .orH => [0xB4]
  | .orL => [0xB5]
  | .orIndHl => [0xB6]
  | .orA => [0xB7]
  | .cpB => [0xB8]
  | .cpC => [0xB9]
  | .cpD => [0xBA]
  | .cpE => [0xBB]
  | .cpH => [0xBC]
  | .cpL => [0xBD]
  | .cpIndHl => [0xBE]
  | .cpA => [0xBF]
  | .retNz => [0xC0]
  | .popBc => [0xC1]
  | .jpNzN16 n16 => [0xC2, lowByte n16, highByte n16]
  | .jpN16 n16 => [0xC3, lowByte n16, highByte n16]
  | .callNzN16 n16 => [0xC4, lowByte n16, highByte n16]
  | .pushBc => [0xC5]
  | .addAN8 n8 => [0xC6, n8]
  | .rst00 => [0xC7]
  | .retZ => [0xC8]
  | .ret => [0xC9]
  | .jpZN16 n16 => [0xCA, lowByte n16, highByte n16]
  | .prefixCb b1 => [0xCB, b1]
  | .callZN16 n16 => [0xCC, lowByte n16, highByte n16]
  | .callN16 n16 => [0xCD, lowByte n16, highByte n16]
  | .adcAN8 n8 => [0xCE, n8]
  | .rst08 => [0xCF]
  | .retNc => [0xD0]
  | .popDe => [0xD1]
  | .jpNcN16 n16 => [0xD2, lowByte n16, highByte n16]
  | .illegal b0 => [b0]
  | .callNcN16 n16 => [0xD4, lowByte n16, highByte n16]
  | .pushDe => [0xD5]
  | .subN8 n8 => [0xD6, n8]
  | .rst10 => [0xD7]
  | .retC => [0xD8]
  | .reti => [0xD9]
  | .jpCN16 n16 => [0xDA, lowByte n16, highByte n16]
  | .callCN16 n16 => [0xDC, lowByte n16, highByte n16]
  | .sbcAN8 n8 => [0xDE, n8]
  | .rst18 => [0xDF]
  | .ldhMemA n8 => [0xE0, n8]
  | .popHl => [0xE1]
  | .ldHighCA => [0xE2]
  | .pushHl => [0xE5]
  | .andN8 n8 => [0xE6, n8]
  | .rst20 => [0xE7]
  | .addSpE8 e8 => [0xE8, e8]
  | .jpHl => [0xE9]
  | .ldMemA n16 => [0xEA, lowByte n16, highByte n16]
  | .xorN8 n8 => [0xEE, n8]
  | .rst28 => [0xEF]
  | .ldhAMem n8 => [0xF0, n8]
  | .popAf => [0xF1]
  | .ldAHighC => [0xF2]
  | .di => [0xF3]
  | .pushAf => [0xF5]
  | .orN8 n8 => [0xF6, n8]
  | .rst30 => [0xF7]
  | .ldHlSpE8 e8 => [0xF8, e8]
  | .ldSpHl => [0xF9]
  | .ldAMem n16 => [0xFA, lowByte n16, highByte n16]
  | .ei => [0xFB]
  | .cpN8 n8 => [0xFE, n8]
  | .rst38 => [0xFF]
  | .rlcB => [0xCB, 0x00]
  | .rlcC => [0xCB, 0x01]
  | .rlcD => [0xCB, 0x02]
  | .rlcE => [0xCB, 0x03]
  | .rlcH => [0xCB, 0x04]
  | .rlcL => [0xCB, 0x05]
  | .rlcIndHl => [0xCB, 0x06]
  | .rlcA => [0xCB, 0x07]
  | .rrcB => [0xCB, 0x08]
  | .rrcC => [0xCB, 0x09]
  | .rrcD => [0xCB, 0x0A]
  | .rrcE => [0xCB, 0x0B]
  | .rrcH => [0xCB, 0x0C]
  | .rrcL => [0xCB, 0x0D]
  | .rrcIndHl => [0xCB, 0x0E]
  | .rrcA => [0xCB, 0x0F]
  | .rlB => [0xCB, 0x10]
  | .rlC => [0xCB, 0x11]
  | .rlD => [0xCB, 0x12]
  | .rlE => [0xCB, 0x13]
  | .rlH => [0xCB, 0x14]
  | .rlL => [0xCB, 0x15]
  | .rlIndHl => [0xCB, 0x16]
  | .rlA => [0xCB, 0x17]
  | .rrB => [0xCB, 0x18]
  | .rrC => [0xCB, 0x19]
  | .rrD => [0xCB, 0x1A]
  | .rrE => [0xCB, 0x1B]
  | .rrH => [0xCB, 0x1C]
  | .rrL => [0xCB, 0x1D]
  | .rrIndHl => [0xCB, 0x1E]
  | .rrA => [0xCB, 0x1F]
  | .slaB => [0xCB, 0x20]
  | .slaC => [0xCB, 0x21]
  | .slaD => [0xCB, 0x22]
  | .slaE => [0xCB, 0x23]
  | .slaH => [0xCB, 0x24]
  | .slaL => [0xCB, 0x25]
  | .slaIndHl => [0xCB, 0x26]
  | .slaA => [0xCB, 0x27]
  | .sraB => [0xCB, 0x28]
  | .sraC => [0xCB, 0x29]
  | .sraD => [0xCB, 0x2A]
  | .sraE => [0xCB, 0x2B]
  | .sraH => [0xCB, 0x2C]
  | .sraL => [0xCB, 0x2D]
  | .sraIndHl => [0xCB, 0x2E]
  | .sraA => [0xCB, 0x2F]
  | .swapB => [0xCB, 0x30]
  | .swapC => [0xCB, 0x31]
  | .swapD => [0xCB, 0x32]
  | .swapE => [0xCB, 0x33]
  | .swapH => [0xCB, 0x34]
  | .swapL => [0xCB, 0x35]
  | .swapIndHl => [0xCB, 0x36]
  | .swapA => [0xCB, 0x37]
  | .srlB => [0xCB, 0x38]
  | .srlC => [0xCB, 0x39]
  | .srlD => [0xCB, 0x3A]
  | .srlE => [0xCB, 0x3B]
  | .srlH => [0xCB, 0x3C]
  | .srlL => [0xCB, 0x3D]
  | .srlIndHl => [0xCB, 0x3E]
  | .srlA => [0xCB, 0x3F]
  | .bit0B => [0xCB, 0x40]
  | .bit0C => [0xCB, 0x41]
  | .bit0D => [0xCB, 0x42]
  | .bit0E => [0xCB, 0x43]
  | .bit0H => [0xCB, 0x44]
  | .bit0L => [0xCB, 0x45]
  | .bit0IndHl => [0xCB, 0x46]
  | .bit0A => [0xCB, 0x47]
  | .bit1B => [0xCB, 0x48]
  | .bit1C => [0xCB, 0x49]
  | .bit1D => [0xCB, 0x4A]
  | .bit1E => [0xCB, 0x4B]
  | .bit1H => [0xCB, 0x4C]
  | .bit1L => [0xCB, 0x4D]
  | .bit1IndHl => [0xCB, 0x4E]
  | .bit1A => [0xCB, 0x4F]
  | .bit2B => [0xCB, 0x50]
  | .bit2C => [0xCB, 0x51]
  | .bit2D => [0xCB, 0x52]
  | .bit2E => [0xCB, 0x53]
  | .bit2H => [0xCB, 0x54]
  | .bit2L => [0xCB, 0x55]
  | .bit2IndHl => [0xCB, 0x56]
  | .bit2A => [0xCB, 0x57]
  | .bit3B => [0xCB, 0x58]
  | .bit3C => [0xCB, 0x59]
  | .bit3D => [0xCB, 0x5A]
  | .bit3E => [0xCB, 0x5B]
  | .bit3H => [0xCB, 0x5C]
  | .bit3L => [0xCB, 0x5D]
  | .bit3IndHl => [0xCB, 0x5E]
  | .bit3A => [0xCB, 0x5F]
  | .bit4B => [0xCB, 0x60]
  | .bit4C => [0xCB, 0x61]
  | .bit4D => [0xCB, 0x62]
  | .bit4E => [0xCB, 0x63]
  | .bit4H => [0xCB, 0x64]
  | .bit4L => [0xCB, 0x65]
  | .bit4IndHl => [0xCB, 0x66]
  | .bit4A => [0xCB, 0x67]
  | .bit5B => [0xCB, 0x68]
  | .bit5C => [0xCB, 0x69]
  | .bit5D => [0xCB, 0x6A]
  | .bit5E => [0xCB, 0x6B]
  | .bit5H => [0xCB, 0x6C]
  | .bit5L => [0xCB, 0x6D]
  | .bit5IndHl => [0xCB, 0x6E]
  | .bit5A => [0xCB, 0x6F]
  | .bit6B => [0xCB, 0x70]
  | .bit6C => [0xCB, 0x71]
  | .bit6D => [0xCB, 0x72]
  | .bit6E => [0xCB, 0x73]
  | .bit6H => [0xCB, 0x74]
  | .bit6L => [0xCB, 0x75]
  | .bit6IndHl => [0xCB, 0x76]
  | .bit6A => [0xCB, 0x77]
  | .bit7B => [0xCB, 0x78]
  | .bit7C => [0xCB, 0x79]
  | .bit7D => [0xCB, 0x7A]
  | .bit7E => [0xCB, 0x7B]
  | .bit7H => [0xCB, 0x7C]
  | .bit7L => [0xCB, 0x7D]
  | .bit7IndHl => [0xCB, 0x7E]
  | .bit7A => [0xCB, 0x7F]
  | .res0B => [0xCB, 0x80]
  | .res0C => [0xCB, 0x81]
  | .res0D => [0xCB, 0x82]
  | .res0E => [0xCB, 0x83]
  | .res0H => [0xCB, 0x84]
  | .res0L => [0xCB, 0x85]
  | .res0IndHl => [0xCB, 0x86]
  | .res0A => [0xCB, 0x87]
  | .res1B => [0xCB, 0x88]
  | .res1C => [0xCB, 0x89]
  | .res1D => [0xCB, 0x8A]
  | .res1E => [0xCB, 0x8B]
  | .res1H => [0xCB, 0x8C]
  | .res1L => [0xCB, 0x8D]
  | .res1IndHl => [0xCB, 0x8E]
  | .res1A => [0xCB, 0x8F]
  | .res2B => [0xCB, 0x90]
  | .res2C => [0xCB, 0x91]
  | .res2D => [0xCB, 0x92]
  | .res2E => [0xCB, 0x93]
  | .res2H => [0xCB, 0x94]
  | .res2L => [0xCB, 0x95]
  | .res2IndHl => [0xCB, 0x96]
  | .res2A => [0xCB, 0x97]
  | .res3B => [0xCB, 0x98]
  | .res3C => [0xCB, 0x99]
  | .res3D => [0xCB, 0x9A]
  | .res3E => [0xCB, 0x9B]
  | .res3H => [0xCB, 0x9C]
  | .res3L => [0xCB, 0x9D]
  | .res3IndHl => [0xCB, 0x9E]
  | .res3A => [0xCB, 0x9F]
  | .res4B => [0xCB, 0xA0]
  | .res4C => [0xCB, 0xA1]
  | .res4D => [0xCB, 0xA2]
  | .res4E => [0xCB, 0xA3]
  | .res4H => [0xCB, 0xA4]
  | .res4L => [0xCB, 0xA5]
  | .res4IndHl => [0xCB, 0xA6]
  | .res4A => [0xCB, 0xA7]
  | .res5B => [0xCB, 0xA8]
  | .res5C => [0xCB, 0xA9]
  | .res5D => [0xCB, 0xAA]
  | .res5E => [0xCB, 0xAB]
  | .res5H => [0xCB, 0xAC]
  | .res5L => [0xCB, 0xAD]
  | .res5IndHl => [0xCB, 0xAE]
  | .res5A => [0xCB, 0xAF]
  | .res6B => [0xCB, 0xB0]
  | .res6C => [0xCB, 0xB1]
  | .res6D => [0xCB, 0xB2]
  | .res6E => [0xCB, 0xB3]
  | .res6H => [0xCB, 0xB4]
  | .res6L => [0xCB, 0xB5]
  | .res6IndHl => [0xCB, 0xB6]
  | .res6A => [0xCB, 0xB7]
  | .res7B => [0xCB, 0xB8]
  | .res7C => [0xCB, 0xB9]
  | .res7D => [0xCB, 0xBA]
  | .res7E => [0xCB, 0xBB]
  | .res7H => [0xCB, 0xBC]
  | .res7L => [0xCB, 0xBD]
  | .res7IndHl => [0xCB, 0xBE]
  | .res7A => [0xCB, 0xBF]
  | .set0B => [0xCB, 0xC0]
  | .set0C => [0xCB, 0xC1]
  | .set0D => [0xCB, 0xC2]
  | .set0E => [0xCB, 0xC3]
  | .set0H => [0xCB, 0xC4]
  | .set0L => [0xCB, 0xC5]
  | .set0IndHl => [0xCB, 0xC6]
  | .set0A => [0xCB, 0xC7]
  | .set1B => [0xCB, 0xC8]
  | .set1C => [0xCB, 0xC9]
  | .set1D => [0xCB, 0xCA]
  | .set1E => [0xCB, 0xCB]
  | .set1H => [0xCB, 0xCC]
  | .set1L => [0xCB, 0xCD]
  | .set1IndHl => [0xCB, 0xCE]
  | .set1A => [0xCB, 0xCF]
  | .set2B => [0xCB, 0xD0]
  | .set2C => [0xCB, 0xD1]
  | .set2D => [0xCB, 0xD2]
  | .set2E => [0xCB, 0xD3]
  | .set2H => [0xCB, 0xD4]
  | .set2L => [0xCB, 0xD5]
  | .set2IndHl => [0xCB, 0xD6]
  | .set2A => [0xCB, 0xD7]
  | .set3B => [0xCB, 0xD8]
  | .set3C => [0xCB, 0xD9]
  | .set3D => [0xCB, 0xDA]
  | .set3E => [0xCB, 0xDB]
  | .set3H => [0xCB, 0xDC]
  | .set3L => [0xCB, 0xDD]
  | .set3IndHl => [0xCB, 0xDE]
  | .set3A => [0xCB, 0xDF]
  | .set4B => [0xCB, 0xE0]
  | .set4C => [0xCB, 0xE1]
  | .set4D => [0xCB, 0xE2]
  | .set4E => [0xCB, 0xE3]
  | .set4H => [0xCB, 0xE4]
  | .set4L => [0xCB, 0xE5]
  | .set4IndHl => [0xCB, 0xE6]
  | .set4A => [0xCB, 0xE7]
  | .set5B => [0xCB, 0xE8]
  | .set5C => [0xCB, 0xE9]
  | .set5D => [0xCB, 0xEA]
  | .set5E => [0xCB, 0xEB]
  | .set5H => [0xCB, 0xEC]
  | .set5L => [0xCB, 0xED]
  | .set5IndHl => [0xCB, 0xEE]
  | .set5A => [0xCB, 0xEF]
  | .set6B => [0xCB, 0xF0]
  | .set6C => [0xCB, 0xF1]
  | .set6D => [0xCB, 0xF2]
  | .set6E => [0xCB, 0xF3]
  | .set6H => [0xCB, 0xF4]
  | .set6L => [0xCB, 0xF5]
  | .set6IndHl => [0xCB, 0xF6]
  | .set6A => [0xCB, 0xF7]
  | .set7B => [0xCB, 0xF8]
  | .set7C => [0xCB, 0xF9]
  | .set7D => [0xCB, 0xFA]
  | .set7E => [0xCB, 0xFB]
  | .set7H => [0xCB, 0xFC]
  | .set7L => [0xCB, 0xFD]
  | .set7IndHl => [0xCB, 0xFE]
  | .set7A => [0xCB, 0xFF]

/-! ### The host's numbering of a table word -/

/-- The bytes, at increasing addresses, of an instruction whose bits the opcode table gives as `w` (log 9). A row of the
extended map is numbered with the prefix in bits 15–8 (its `match` is 0xCB00 to 0xCBFF); every other row has its first
byte in bits 7–0 and operand bytes above. Bits above `nbits` are 0. -/
def tableBytes (nbits w : Nat) : List Byte :=
  let v := w % 2 ^ nbits
  if nbits = 16 ∧ v / 256 = 0xCB then [0xCB, BitVec.ofNat 8 v, 0]
  else [BitVec.ofNat 8 v, BitVec.ofNat 8 (v / 256), BitVec.ofNat 8 (v / 65536)]

/-- The instruction the decoder reads from an instruction whose bits are `w` (log 9). Every first byte is a row of the
table, so there is always one. -/
def decodeTableWord (nbits w : Nat) : Option Instr :=
  match tableBytes nbits w with
  | [b0, b1, b2] => some (decodeBytes b0 b1 b2)
  | _ => none

end Sys2Proof
end

