-- ==== Sys2Proof/Config.lean ====
section
/-! DEFINITION. What an implementation fixes (the parameters of R7 that are plain numbers) and the free values: what
the spec leaves to agents outside CORE. A free value has no body, so nothing can be proved about which value it is. -/

namespace Sys2Proof

/-- The two meanings the spec gives STOP (R7, R242, D7). -/
inductive StopMode where
  /-- STOP has no meaning: the step is refused. -/
  | refuse
  /-- STOP is a two-byte no-operation of cost 1. -/
  | nop2
deriving DecidableEq, Repr

/-- T-cycles per M-cycle (R7, D1). -/
abbrev Config.tPerM : Nat := 4

/-- The master clock in Hz (R7, D28). -/
abbrev Config.masterClockHz : Nat := 4194304

/-- T-cycles per sweep clock (R7, R274): 32768. -/
abbrev Config.sweepDivider : Nat := Config.masterClockHz / 128

/-- T-cycles from the overflow of TIMA to its reload (R7, R262, R263). -/
abbrev Config.timaReloadDelay : Int := 4

/-- FREE VALUE (log 3). The byte the `n`-th draw of an external device's register gives: the joypad at 0xFF00 and the
rest of the sound device at 0xFF15–0xFF3F (R57, U4: "any value"). -/
opaque Config.freeByte : Nat → Byte

/-- FREE VALUE (log 4). The envelope volume, 0–15, that the `n`-th audio step is given (R286, U5). -/
opaque Config.freeVolume : Nat → BitVec 4

/-- FREE VALUE (log 4). Whether the `n`-th audio step is given a length-expiry event (R286, U5). -/
opaque Config.freeExpiry : Nat → Bool

end Sys2Proof
end

