-- ==== Sys2Proof/Machine/State.lean ====
section
/-! DEFINITION. The state of CORE as plain data: every piece of state of 10_state.md, each under the spec's own name, with
the reasons a step can stop and the machine right after reset (R300). -/

namespace Sys2Proof.Machine

/-- Bytes by key, in one canonical form: keys strictly rising, no entry equal to what an unlisted key reads as (R34, R80:
0x00). The form itself is `Memory.wf` of Machine/Memory.lean. -/
abbrev Memory := List Host.Cell

/-! ### The parts of the state -/

/-- The eight 8-bit registers (R20). F is read and written through the accessors of Machine/Ops.lean, which keep its low
four bits zero (R21). -/
structure Regs where
  a : Byte
  f : Byte
  b : Byte
  c : Byte
  d : Byte
  e : Byte
  h : Byte
  l : Byte
deriving DecidableEq, Repr

/-- The timer and divider (R36). -/
structure Timer where
  /-- The free-running 16-bit divider; only its high byte is visible (R36, R264). -/
  div : BitVec 16
  tima : Byte
  tma : Byte
  /-- Bit 2 enable, bits 1–0 period select (R36, R266). -/
  tac : BitVec 3
  /-- T-cycles gathered toward the next TIMA increment (R36, R262). -/
  acc : Nat
  reloadPending : Bool
  /-- T-cycles until the reload (R36, R262). -/
  reloadCountdown : Int
deriving DecidableEq, Repr

/-- Square-wave channel 1 with its frequency sweep (R37). -/
structure Channel1 where
  duty : BitVec 2
  dutyPos : BitVec 3
  /-- The duty timer, in T-cycles (R37, R272). -/
  timer : Int
  enabled : Bool
  /-- The latched output bit (R37, R272). -/
  out : Bool
  /-- The channel frequency, 0 to 2048 (R6, R37). -/
  freq : Nat
  nr10 : Byte
  nr11 : Byte
  nr12 : Byte
  nr14 : Byte
  /-- The sweep's copy of the frequency, 0 to 2048 (R37). -/
  shadow : Nat
  sweepTimer : Int
  period : BitVec 3
  negate : Bool
  shift : BitVec 3
  sweepEnabled : Bool
  /-- "calculation made since trigger" (R37, R284). -/
  calcLatch : Bool
  /-- T-cycles gathered toward the next sweep clock (R37, R274). -/
  sweepAcc : Nat
  /-- The current envelope input (R273, R286). -/
  volume : BitVec 4
deriving DecidableEq, Repr

/-- The bank controller of a cartridge (R38, R80). -/
inductive ControllerKind where
  | none | mbc1 | mbc3
deriving DecidableEq, Repr

/-- The cartridge (R38): its images, its header-derived counts and its bank-control state. -/
structure Cartridge where
  /-- Whether a cartridge is loaded at all (R303, U11). -/
  loaded : Bool
  kind : ControllerKind
  /-- The ROM image, by offset; offsets from `romLength` on are outside it. -/
  rom : Memory
  romLength : Nat
  romBankCount : Nat
  ramBankCount : Nat
  supportsCgb : Bool
  requiresCgb : Bool
  /-- The external RAM image, by offset (R84, R95). -/
  ram : Memory
  ramEnabled : Bool
  bankLow5 : BitVec 5
  bankHigh2 : BitVec 2
  /-- MBC1 mode: false extended-ROM banking, true RAM banking (R90). -/
  mode : Bool
  romBank : Nat
  ramBank : Nat
deriving DecidableEq, Repr

/-- The boot overlay (R39, R55, R56): the parameters `BOOT_ROM` and `BOOT_OFF_ADDR` and the bit `bootActive`. -/
structure BootOverlay where
  /-- The overlay image by address 0x00–0xFF, or none (R7, D12). -/
  image : Option Memory
  /-- `BOOT_OFF_ADDR` (R7, R56). -/
  offAddr : Word
  active : Bool
deriving DecidableEq, Repr

/-- A record of the observability log: an anomaly and what is recorded of it (R40, R250). -/
inductive LogRecord where
  /-- A CPU write that is discarded (R58, R86). -/
  | writeReadOnly (addr : Word) (value : Byte)
  /-- A CPU read of 0xFF47 (R59). -/
  | readWriteOnly (addr : Word)
deriving DecidableEq, Repr

/-- What the bus reaches: its own storage, the devices, the cartridge, the boot overlay, the log (R34 to R40). -/
structure Bus where
  /-- The bus-owned arrays of R34 by bus address: `vram` at 0x8000–0x9FFF, `wram` at 0xC000–0xDFFF, `oam` at 0xFE00–0xFE9F,
  `io` at 0xFF00–0xFF7F (IF is 0xFF0F), `hram` at 0xFF80–0xFFFF (IE is 0xFFFF). -/
  mem : Memory
  timer : Timer
  ch1 : Channel1
  cart : Cartridge
  boot : BootOverlay
  /-- Oldest record first (R40). -/
  log : List LogRecord
  /-- The model's own counter: how many free values have been drawn. A soft reset keeps it (log 6). -/
  draws : Nat
deriving DecidableEq, Repr

/-- The interrupt kinds, in priority order (R251). -/
inductive IrqKind where
  | vblank | lcdc | timer | serial | joypad
deriving DecidableEq, Repr

/-! ### Why a step stops -/

/-- The machine's faults (R11, R250): each ends the run. -/
inductive Fault where
  /-- Raised by the meaning of ILLEGAL, at the fetch of one of the eleven first bytes that encode no instruction, with the pc
  and the byte (R245). Safe: the spec names the fault, and the hardware's lock-up makes no progress either. -/
  | illegalOpcode (pc : Word) (b0 : Byte)
  /-- Raised by a host's bus call with an address above 0xFFFF, never by the CPU; it ends the run (R64, R250). Safe: the spec
  names the fault. -/
  | addressOutOfRange (addr : Nat)
deriving DecidableEq, Repr

/-- Why the model gives a step no meaning (R11). -/
inductive Refusal where
  /-- Raised by an arm of `exec` that has no meaning yet. Safe. -/
  | notModelled (mnemonic : String)
  /-- Raised by the meaning of STOP when the machine's `STOP_MODE` is `refuse`, with the pc (R242). Safe. -/
  | stopUnmodelled (pc : Word)
  /-- Raised by the step when no cartridge is loaded, which is outside the model (R303, U11). Safe. -/
  | noCartridge
deriving DecidableEq, Repr

/-- A run's end mark: the fault or refusal that ended it (R11, R40). -/
inductive StopMark where
  | fault (r : Fault)
  | refusal (r : Refusal)
deriving DecidableEq, Repr

/-! ### The state -/

/-- The state of CORE between two machine ticks. -/
structure State where
  regs : Regs
  pc : Word
  sp : Word
  /-- Interrupt Master Enable (R29). -/
  ime : Bool
  halted : Bool
  /-- The pending halt-bug mark (R31). -/
  haltBug : Bool
  /-- The global cycle counter, in M-cycles (R33). -/
  cycles : Nat
  bus : Bus
  /-- The parameter `STOP_MODE` (R7, R242). -/
  stopMode : StopMode
  /-- The run's end mark (R40, R132). -/
  stop : Option StopMark
deriving DecidableEq, Repr

/-! ### Reset values (R300) -/

def Regs.reset : Regs :=
  { a := 0x00, f := 0x00, b := 0x00, c := 0x00, d := 0x00, e := 0x00, h := 0x00, l := 0x00 }

def Timer.reset : Timer :=
  { div := 0, tima := 0x00, tma := 0x00, tac := 0, acc := 0, reloadPending := false, reloadCountdown := 0 }

/-- Every channel 1 and sweep field 0 (R300). The volume is an input, which the spec gives no reset value: DESIGN CHOICE 0
(log 5). -/
def Channel1.reset : Channel1 :=
  { duty := 0, dutyPos := 0, timer := 0, enabled := false, out := false, freq := 0,
    nr10 := 0x00, nr11 := 0x00, nr12 := 0x00, nr14 := 0x00,
    shadow := 0, sweepTimer := 0, period := 0, negate := false, shift := 0,
    sweepEnabled := false, calcLatch := false, sweepAcc := 0, volume := 0 }

/-- No cartridge: nothing listed, no banks, the bank-control state as reset leaves it (R38, R300, log 8). -/
def Cartridge.absent : Cartridge :=
  { loaded := false, kind := .none, rom := [], romLength := 0, romBankCount := 0, ramBankCount := 0,
    supportsCgb := false, requiresCgb := false, ram := [], ramEnabled := false, bankLow5 := 1, bankHigh2 := 0,
    mode := false, romBank := 1, ramBank := 0 }

/-- No boot overlay image, the exit register at its default (R7, D12). -/
def BootOverlay.absent : BootOverlay :=
  { image := none, offAddr := 0x01FE, active := false }

/-- The bus after reset: every byte 0x00 (nothing listed), the log empty (R34, R40, R300). -/
def Bus.reset : Bus :=
  { mem := [], timer := Timer.reset, ch1 := Channel1.reset, cart := Cartridge.absent, boot := BootOverlay.absent,
    log := [], draws := 0 }

/-- The machine right after reset, with no cartridge loaded (R300, R303, log 8), built with the parameter values of R7: no boot
overlay, `STOP_MODE = refuse`. A machine built with others is `State.built` of Machine/Environment.lean (log 2). -/
def State.reset : State :=
  { regs := Regs.reset, pc := 0x0000, sp := 0x0000, ime := false, halted := false, haltBug := false, cycles := 0,
    bus := Bus.reset, stopMode := .refuse, stop := none }

end Sys2Proof.Machine
end

