-- ==== Sys2Proof/Machine/Audio.lean ====
section
/-! DEFINITION. Square-wave channel 1 and its frequency sweep: registers (R276 to R280), trigger (R281, R282), the sweep
(R274, R275, R283, R284), the duty timer (R270, R272) and the output (R273, R285). -/

namespace Sys2Proof.Machine

/-! ### Registers -/

/-- `Ch1Read(a)` for 0xFF10–0xFF14, with the masks `AUDIO_READ_MASK` (R7, R276). -/
def Channel1.readReg (c : Channel1) (n : Nat) : Byte :=
  if n = 0xFF10 then c.nr10 ||| 0x80
  else if n = 0xFF11 then c.nr11 ||| 0x3F
  else if n = 0xFF12 then c.nr12 ||| 0x00
  else if n = 0xFF13 then 0xFF
  else c.nr14 ||| 0xBF

/-- What the sweep's period timer is reloaded with: the period, or 8 if it is 0 (R275, R282). -/
def sweepReload (period : BitVec 3) : Int := if period = 0 then 8 else period.toNat

/-- `SweepTrigger()` (R282). -/
def Channel1.sweepTrigger (c : Channel1) : Channel1 :=
  { c with
    shadow := c.freq
    sweepTimer := sweepReload c.period
    sweepEnabled := c.period != 0 || c.shift != 0
    calcLatch := false }

/-- The duty timer's period `(2048 - freq) * 4` (R272, R281). -/
def dutyPeriod (freq : Nat) : Nat := (2048 - freq) * 4

/-- `Trigger()` (R281). -/
def Channel1.trigger (c : Channel1) : Channel1 :=
  { c with enabled := true, timer := dutyPeriod c.freq }.sweepTrigger

/-- `Ch1Write(0xFF10, v)` with the negate quirk (R277). -/
def Channel1.writeNr10 (c : Channel1) (v : Byte) : Channel1 :=
  let newNegate := v.getLsbD 3
  { c with
    enabled := if c.negate && !newNegate && c.calcLatch then false else c.enabled
    calcLatch := if !c.negate && newNegate then false else c.calcLatch
    period := v.extractLsb' 4 3
    negate := newNegate
    shift := v.extractLsb' 0 3
    nr10 := v &&& 0x7F }

/-- `Ch1Write(0xFF14, v)`: the frequency's high bits, then the trigger (R280). -/
def Channel1.writeNr14 (c : Channel1) (v : Byte) : Channel1 :=
  let c := { c with freq := ((v.toNat &&& 0x07) <<< 8) ||| (c.freq &&& 0xFF), nr14 := v &&& 0x40 }
  if v.getLsbD 7 then c.trigger else c

/-- `Ch1Write(a, v)` for 0xFF10–0xFF14 (R277 to R280). -/
def Channel1.writeReg (c : Channel1) (n : Nat) (v : Byte) : Channel1 :=
  if n = 0xFF10 then c.writeNr10 v
  else if n = 0xFF11 then { c with duty := v.extractLsb' 6 2, nr11 := v &&& 0xC0 }
  else if n = 0xFF12 then { c with nr12 := v }
  else if n = 0xFF13 then { c with freq := (c.freq &&& 0x700) ||| v.toNat }
  else c.writeNr14 v

/-! ### The sweep -/

/-- What a sweep calculation computes, before the clamp (R283). -/
def Channel1.sweepSum (c : Channel1) : Nat :=
  if c.negate then c.shadow - (c.shadow >>> c.shift.toNat) else c.shadow + (c.shadow >>> c.shift.toNat)

/-- `SweepCalc()`: the clamped result (R283). -/
def Channel1.sweepResult (c : Channel1) : Nat := min c.sweepSum 2048

/-- `SweepCalc()`: its effects, the latch (R284) and the overflow's disabling (R283). -/
def Channel1.afterSweepCalc (c : Channel1) : Channel1 :=
  { c with
    calcLatch := c.negate || c.calcLatch
    enabled := if 2047 < c.sweepSum then false else c.enabled
    sweepEnabled := if 2047 < c.sweepSum then false else c.sweepEnabled }

/-- What an expired period timer with a nonzero period does: a calculation, and with a nonzero shift the commit of its
clamped result and a second calculation (R275). -/
def Channel1.sweepExpire (c : Channel1) : Channel1 :=
  let n := c.sweepResult
  let c := c.afterSweepCalc
  if c.shift = 0 then c else { c with shadow := n, freq := n }.afterSweepCalc

/-- One sweep clock (R275). -/
def Channel1.sweepClock (c : Channel1) : Channel1 :=
  if c.sweepEnabled then
    if c.sweepTimer - 1 ≤ 0 then
      let c := { c with sweepTimer := sweepReload c.period }
      if c.period = 0 then c else c.sweepExpire
    else { c with sweepTimer := c.sweepTimer - 1 }
  else c

/-- The loop `while sweepAcc > SWEEP_DIVIDER` (R275); `sweepAcc` passes are always enough
(`Channel1.sweepLoop_settled` of Laws/Devices.lean). -/
def Channel1.sweepLoop : Nat → Channel1 → Channel1
  | 0, c => c
  | fuel + 1, c =>
    if Config.sweepDivider < c.sweepAcc then
      Channel1.sweepLoop fuel { c with sweepAcc := c.sweepAcc - Config.sweepDivider }.sweepClock
    else c

/-- `SweepCycle(t)` (R275). -/
def Channel1.sweepCycle (c : Channel1) (cycles : Nat) : Channel1 :=
  Channel1.sweepLoop (c.sweepAcc + cycles) { c with sweepAcc := c.sweepAcc + cycles }

/-! ### The duty timer and the output -/

/-- The duty patterns, `DUTY[d][i]` the `i`-th character from the left (R270). -/
def dutyPattern (duty : BitVec 2) : Byte :=
  match duty.toNat with
  | 0 => 0b00000001
  | 1 => 0b10000001
  | 2 => 0b10000111
  | _ => 0b01111110

/-- `DUTY[duty][pos]` (R270). -/
def dutyBit (duty : BitVec 2) (pos : BitVec 3) : Bool := (dutyPattern duty).getMsbD pos.toNat

/-- One reload of the duty timer: the period is added, the position advances, the output bit is latched (R272). -/
def Channel1.dutyAdvance (c : Channel1) : Channel1 :=
  { c with
    timer := c.timer + dutyPeriod c.freq
    dutyPos := c.dutyPos + 1
    out := dutyBit c.duty (c.dutyPos + 1) }

/-- The loop `while timer < 0`, which a frequency of 0 or a period of 0 stalls at 0 (R272). Every pass adds at least 4, so
`-timer` passes are always enough (`Channel1.dutyLoop_settled` of Laws/Devices.lean). -/
def Channel1.dutyLoop : Nat → Channel1 → Channel1
  | 0, c => c
  | fuel + 1, c =>
    if c.timer < 0 then
      if c.freq = 0 ∨ dutyPeriod c.freq = 0 then { c with timer := 0 }
      else Channel1.dutyLoop fuel c.dutyAdvance
    else c

/-- `DutyCycle(t)` (R272). -/
def Channel1.dutyCycle (c : Channel1) (cycles : Nat) : Channel1 :=
  Channel1.dutyLoop (cycles - c.timer).toNat { c with timer := c.timer - cycles }

/-- `EnvelopeLengthStep`: the envelope volume and the length expiry that the external units give (R286). -/
def Channel1.envelopeLength (c : Channel1) (volume : BitVec 4) (expiry : Bool) : Channel1 :=
  { c with volume := volume, enabled := c.enabled && !expiry }

/-- `Ch1Enabled()` (R285). -/
def Channel1.isEnabled (c : Channel1) : Bool := c.enabled

/-- `Ch1Sample()`: the latched bit times the volume, or silence (R273). -/
def Channel1.sample (c : Channel1) : Nat := if c.enabled then c.out.toNat * c.volume.toNat else 0

end Sys2Proof.Machine
end

