-- ==== Sys2Proof/Machine/Memory.lean ====
section
/-! DEFINITION. Reading and writing one byte of a canonical list of bytes. -/

namespace Sys2Proof.Machine

/-- What an unlisted key reads as: reset zeroes every byte the bus owns (R34), a cartridge without a saved image has
zero-filled RAM (R95), and a ROM or overlay image lists the bytes that are not 0x00. -/
def Memory.unlisted : Byte := 0x00

/-- The byte at a key. -/
def Memory.read : Memory → Nat → Byte
  | [], _ => Memory.unlisted
  | (k, v) :: m, key => if k = key then v else Memory.read m key

/-- The list without a key. -/
def Memory.erase (m : Memory) (key : Nat) : Memory := m.filter fun cell => cell.1 != key

/-- A cell put before the first larger key. -/
def Memory.insert : Memory → Nat → Byte → Memory
  | [], key, v => [(key, v)]
  | (k, w) :: m, key, v => if key < k then (key, v) :: (k, w) :: m else (k, w) :: Memory.insert m key v

/-- The byte at a key replaced. Writing what an unlisted key reads as removes the entry. -/
def Memory.write (m : Memory) (key : Nat) (v : Byte) : Memory :=
  if v = Memory.unlisted then Memory.erase m key else Memory.insert (Memory.erase m key) key v

/-- The canonical form: keys strictly rising, no entry equal to what an unlisted key reads as. -/
abbrev Memory.wf (m : Memory) : Prop :=
  m.Pairwise (fun c c' => c.1 < c'.1) ∧ ∀ c ∈ m, c.2 ≠ Memory.unlisted

/-- The canonical list of an image's bytes, the first at key `base`. -/
def Memory.ofBytes : Nat → List Byte → Memory
  | _, [] => []
  | base, v :: bytes =>
    if v = Memory.unlisted then Memory.ofBytes (base + 1) bytes
    else (base, v) :: Memory.ofBytes (base + 1) bytes

end Sys2Proof.Machine
end

