-- ==== Sys2Proof/Machine/Cart.lean ====
section
/-! DEFINITION. The cartridge: ROM and external RAM windows (R83, R84), the bank controllers MBC1 and MBC3 (R85 to R94) and
loading (R80 to R82, R95). -/

namespace Sys2Proof.Machine

/-- Bytes in one ROM bank (R81). -/
def romBankSize : Nat := 0x4000

/-- Bytes in one RAM bank (R81). -/
def ramBankSize : Nat := 0x2000

/-! ### The windows -/

/-- The ROM offset that a bus address 0x0000–0x7FFF reads (R83). -/
def Cartridge.romIndex (c : Cartridge) (n : Nat) : Nat :=
  if n ≤ 0x3FFF then n else c.romBank * romBankSize + (n - 0x4000)

/-- `CartRead(a)` for `a <= 0x7FFF` (R83). -/
def Cartridge.readRom (c : Cartridge) (n : Nat) : Byte := Memory.read c.rom (c.romIndex n)

/-- Whether the external RAM window reaches a byte (R84). -/
def Cartridge.ramReachable (c : Cartridge) : Bool := c.ramEnabled && decide (0 < c.ramBankCount)

/-- The RAM offset that a bus address 0xA000–0xBFFF reaches (R84). -/
def Cartridge.ramIndex (c : Cartridge) (n : Nat) : Nat :=
  c.ramBank % c.ramBankCount * ramBankSize + (n - 0xA000)

/-- `CartRead(a)` for `0xA000 <= a <= 0xBFFF`: the selected byte, or the open-bus sentinel (R84). -/
def Cartridge.readRam (c : Cartridge) (n : Nat) : Byte :=
  if c.ramReachable then Memory.read c.ram (c.ramIndex n) else 0xFF

/-- `CartWrite(a, v)` for `0xA000 <= a <= 0xBFFF` (R84). -/
def Cartridge.writeRam (c : Cartridge) (n : Nat) (v : Byte) : Cartridge :=
  if c.ramReachable then { c with ram := Memory.write c.ram (c.ramIndex n) v } else c

/-! ### The bank controllers -/

/-- `Reduce(v)`: modulo the bank count, and 1 if that is 0 (R92). -/
def reduceBank (count v : Nat) : Nat := if v % count = 0 then 1 else v % count

/-- The raw MBC1 ROM bank: the upper register is folded in in extended-ROM mode from 64 banks on (R91). -/
def Cartridge.mbc1RawBank (c : Cartridge) : Nat :=
  if c.mode = false ∧ 64 ≤ c.romBankCount then c.bankLow5.toNat ||| (c.bankHigh2.toNat <<< 5) else c.bankLow5.toNat

/-- The effective MBC1 banks, recomputed after every write of the bank registers (R91). -/
def Cartridge.mbc1Recompute (c : Cartridge) : Cartridge :=
  { c with
    romBank := reduceBank c.romBankCount c.mbc1RawBank
    ramBank := if c.mode = true ∧ c.ramBankCount = 4 then c.bankHigh2.toNat else 0 }

/-- RAM enable, the same for MBC1 and MBC3: low nibble 0xA enables, anything else disables (R87, R93). -/
def Cartridge.writeRamEnable (c : Cartridge) (v : Byte) : Cartridge :=
  { c with ramEnabled := v &&& 0x0F == 0x0A }

/-- The low five bits of the MBC1 ROM bank, clamped to at least 1 (R88). -/
def mbc1Low5 (v : Byte) : BitVec 5 :=
  if v.extractLsb' 0 5 = 0 then 1 else v.extractLsb' 0 5

/-- A write to the MBC1 registers, 0x0000–0x7FFF (R87 to R90). -/
def Cartridge.writeMbc1 (c : Cartridge) (n : Nat) (v : Byte) : Cartridge :=
  if n ≤ 0x1FFF then c.writeRamEnable v
  else if n ≤ 0x3FFF then { c with bankLow5 := mbc1Low5 v }.mbc1Recompute
  else if n ≤ 0x5FFF then { c with bankHigh2 := v.extractLsb' 0 2 }.mbc1Recompute
  else { c with mode := v.getLsbD 0 }.mbc1Recompute

/-- A write to the MBC3 registers, 0x0000–0x7FFF (R93, R94). -/
def Cartridge.writeMbc3 (c : Cartridge) (n : Nat) (v : Byte) : Cartridge :=
  if n ≤ 0x1FFF then c.writeRamEnable v
  else if n ≤ 0x3FFF then { c with romBank := reduceBank c.romBankCount v.toNat }
  else if n ≤ 0x5FFF then { c with ramBank := (v &&& 0x03).toNat }
  else c

/-- The bank-control state after a load and after reset (R38, R300). -/
def Cartridge.resetBanks (c : Cartridge) : Cartridge :=
  { c with ramEnabled := false, bankLow5 := 1, bankHigh2 := 0, mode := false, romBank := 1, ramBank := 0 }

/-! ### Loading -/

/-- Why a load fails (R80, R250). A failed load changes nothing (R303). -/
inductive LoadFailure where
  /-- Header byte 0x0147 outside the three ranges. -/
  | unsupportedController (k : Byte)
  /-- The image is shorter than its header or its bank count, or its RAM-size byte is above 5. -/
  | malformedRom
deriving DecidableEq, Repr

/-- The controller that header byte 0x0147 selects (R80). -/
def controllerOf (k : Byte) : Option ControllerKind :=
  if k.toNat = 0x00 then some .none
  else if 0x01 ≤ k.toNat ∧ k.toNat ≤ 0x03 then some .mbc1
  else if 0x0F ≤ k.toNat ∧ k.toNat ≤ 0x13 then some .mbc3
  else none

/-- The RAM bank count of header byte 0x0149, for bytes up to 5 (R80, R81). -/
def ramBanksOf (s : Nat) : Nat := [0, 0, 1, 4, 16, 8].getD s 0

/-- The external RAM image at load: the saved one if its length fits, else zero-filled (R95). -/
def ramImage (ramBankCount : Nat) (saved : Option (List Byte)) : Memory :=
  match saved with
  | some bytes => if bytes.length = ramBankCount * ramBankSize then Memory.ofBytes 0 bytes else []
  | none => []

/-- `loadGame(rom)` with the image of the persistence collaborator, if any (R80, R95). -/
def loadCartridge (rom : List Byte) (saved : Option (List Byte)) : Except LoadFailure Cartridge :=
  if rom.length < 0x0150 then .error .malformedRom
  else
    match controllerOf (rom.getD 0x0147 0) with
    | none => .error (.unsupportedController (rom.getD 0x0147 0))
    | some kind =>
      let romBankCount := 2 ^ ((rom.getD 0x0148 0).toNat + 1)
      let sizeByte := (rom.getD 0x0149 0).toNat
      if rom.length < romBankCount * romBankSize then .error .malformedRom
      else if 5 < sizeByte then .error .malformedRom
      else
        .ok
          { loaded := true, kind := kind
            rom := Memory.ofBytes 0 rom, romLength := rom.length
            romBankCount := romBankCount, ramBankCount := ramBanksOf sizeByte
            supportsCgb := (rom.getD 0x0143 0).getLsbD 7
            requiresCgb := rom.getD 0x0143 0 == 0xC0
            ram := ramImage (ramBanksOf sizeByte) saved
            ramEnabled := false, bankLow5 := 1, bankHigh2 := 0, mode := false, romBank := 1, ramBank := 0 }

end Sys2Proof.Machine
end

