-- ==== Sys2Proof/Machine/Timer.lean ====
section
/-! DEFINITION. The timer and divider: registers (R264 to R266) and the timer step (R262, R263). The interrupt request the
step makes is an answer of `Timer.step`; the bus raises it (Machine/Bus.lean). -/

namespace Sys2Proof.Machine

/-- `TIMER_PERIODS`: T-cycles per TIMA increment for `tac[1:0]` (R7, R266). -/
def timerPeriod (tac : BitVec 3) : Nat :=
  match tac.toNat % 4 with
  | 0 => 1024
  | 1 => 16
  | 2 => 64
  | _ => 256

/-- `tac[2]`: counting enabled (R266). -/
def Timer.running (t : Timer) : Bool := t.tac.getLsbD 2

/-- `TimerRead(a)` for 0xFF04–0xFF07 (R264). -/
def Timer.readReg (t : Timer) (n : Nat) : Byte :=
  if n = 0xFF04 then t.div.extractLsb' 8 8
  else if n = 0xFF05 then t.tima
  else if n = 0xFF06 then t.tma
  else t.tac.setWidth 8 ||| 0xF8

/-- `TimerWrite(a, v)` for 0xFF04–0xFF07 (R265). -/
def Timer.writeReg (t : Timer) (n : Nat) (v : Byte) : Timer :=
  if n = 0xFF04 then { t with div := 0, acc := 0 }
  else if n = 0xFF05 then { t with tima := v }
  else if n = 0xFF06 then { t with tma := v }
  else { t with tac := v.extractLsb' 0 3 }

/-- One pass of the counting loop: one period is taken from the accumulator and TIMA increments, or overflows to 0x00 and
arms the reload (R262, R263). -/
def Timer.increment (t : Timer) : Timer :=
  let acc := t.acc - timerPeriod t.tac
  if t.tima = 0xFF then
    { t with acc := acc, tima := 0x00, reloadPending := true, reloadCountdown := Config.timaReloadDelay }
  else { t with acc := acc, tima := t.tima + 1 }

/-- The counting loop `while acc > period` (R262). Every pass lowers the accumulator, so `t.acc` passes are always enough
(`Timer.count_settled` of Laws/Devices.lean). -/
def Timer.count : Nat → Timer → Timer
  | 0, t => t
  | fuel + 1, t => if timerPeriod t.tac < t.acc then Timer.count fuel t.increment else t

/-- The divider's advance and the reload countdown (R262): the timer, and whether the reload fired (which requests the
Timer interrupt, R263). -/
def Timer.reload (t : Timer) (cycles : Nat) : Timer × Bool :=
  let t := { t with div := t.div + BitVec.ofNat 16 cycles }
  if t.reloadPending then
    if t.reloadCountdown - cycles ≤ 0 then
      ({ t with reloadCountdown := t.reloadCountdown - cycles, tima := t.tma, reloadPending := false }, true)
    else ({ t with reloadCountdown := t.reloadCountdown - cycles }, false)
  else (t, false)

/-- The counting part of the timer step: nothing while the timer is stopped (R262). -/
def Timer.advance (t : Timer) (cycles : Nat) : Timer :=
  if t.running then Timer.count (t.acc + cycles) { t with acc := t.acc + cycles } else t

/-- `TimerStep(t)` (R262): the timer, and whether the Timer interrupt is requested. -/
def Timer.step (t : Timer) (cycles : Nat) : Timer × Bool :=
  ((t.reload cycles).1.advance cycles, (t.reload cycles).2)

end Sys2Proof.Machine
end

