-- ==== Sys2Proof/Machine/Bus.lean ====
section
/-! DEFINITION. The bus: the CPU's read and write contract over the whole address space (R52, R54), the I/O dispatch (R57),
the interrupt registers (R35, R251, R252, R255) and the devices' advance (R262, R271). -/

namespace Sys2Proof.Machine

/-! ### The I/O region -/

/-- The addresses of devices outside CORE: the joypad and the rest of the sound device (R57). -/
def isExternal (n : Nat) : Bool := n == 0xFF00 || (decide (0xFF15 ≤ n) && decide (n ≤ 0xFF3F))

/-- `IoRead(a)` for 0xFF00–0xFF7F (R57). A read of an external device is a free value (log 3). -/
def Bus.readIo (b : Bus) (n : Nat) : Byte :=
  if 0xFF04 ≤ n ∧ n ≤ 0xFF07 then b.timer.readReg n
  else if 0xFF10 ≤ n ∧ n ≤ 0xFF14 then b.ch1.readReg n
  else if isExternal n then Config.freeByte b.draws
  else if n = 0xFF47 then 0xFF
  else Memory.read b.mem n

/-- `IoWrite(a, v)` for 0xFF00–0xFF7F (R57). A write to an external device changes no CORE state. -/
def Bus.writeIo (b : Bus) (a : Word) (v : Byte) : Bus :=
  let n := a.toNat
  if 0xFF04 ≤ n ∧ n ≤ 0xFF07 then { b with timer := b.timer.writeReg n v }
  else if 0xFF10 ≤ n ∧ n ≤ 0xFF14 then { b with ch1 := b.ch1.writeReg n v }
  else if isExternal n then b
  else if n = 0xFF44 then { b with log := b.log ++ [.writeReadOnly a v] }
  else { b with mem := Memory.write b.mem n v }

/-! ### The CPU's contract -/

/-- The byte of the boot overlay image at an address 0x00–0xFF (R55). -/
def BootOverlay.byteAt (o : BootOverlay) (n : Nat) : Byte :=
  match o.image with
  | some image => Memory.read image n
  | none => Memory.unlisted

/-- The byte a CPU read of `a` returns: `MemRead(a, 1)` (R52). The local masks of R61 give the same cells, since the
arrays are keyed by bus address. -/
def Bus.read (b : Bus) (a : Word) : Byte :=
  let n := a.toNat
  if b.boot.active ∧ n ≤ 0x00FF then b.boot.byteAt n
  else if n ≤ 0x7FFF then b.cart.readRom n
  else if n ≤ 0x9FFF then Memory.read b.mem n
  else if n ≤ 0xBFFF then b.cart.readRam n
  else if n ≤ 0xDFFF then Memory.read b.mem n
  else if n ≤ 0xFDFF then Memory.read b.mem (n - 0x2000)
  else if n ≤ 0xFE9F then Memory.read b.mem n
  else if n ≤ 0xFEFF then 0x00
  else if n ≤ 0xFF7F then b.readIo n
  else Memory.read b.mem n

/-- The bus after a CPU read of `a`: unchanged, but for the log entry of 0xFF47 (R59) and the draw of an external device
(R57, R68). -/
def Bus.afterRead (b : Bus) (a : Word) : Bus :=
  if a.toNat = 0xFF47 then { b with log := b.log ++ [.readWriteOnly a] }
  else if isExternal a.toNat then { b with draws := b.draws + 1 }
  else b

/-- A CPU write to 0x0000–0x7FFF: the controller's registers, or, with no controller, discarded and logged (R54, R85 to
R94, D13, D37). -/
def Bus.writeRom (b : Bus) (a : Word) (v : Byte) : Bus :=
  match b.cart.kind with
  | .none => { b with log := b.log ++ [.writeReadOnly a v] }
  | .mbc1 => { b with cart := b.cart.writeMbc1 a.toNat v }
  | .mbc3 => { b with cart := b.cart.writeMbc3 a.toNat v }

/-- A CPU write `MemWrite(a, 1, v)` (R54). -/
def Bus.write (b : Bus) (a : Word) (v : Byte) : Bus :=
  let n := a.toNat
  if b.boot.active ∧ a = b.boot.offAddr then { b with boot := { b.boot with active := false } }
  else if n ≤ 0x7FFF then b.writeRom a v
  else if n ≤ 0x9FFF then { b with mem := Memory.write b.mem n v }
  else if n ≤ 0xBFFF then { b with cart := b.cart.writeRam n v }
  else if n ≤ 0xDFFF then { b with mem := Memory.write b.mem n v }
  else if n ≤ 0xFDFF then { b with mem := Memory.write b.mem (n - 0x2000) v }
  else if n ≤ 0xFE9F then { b with mem := Memory.write b.mem n v }
  else if n ≤ 0xFEFF then b
  else if n ≤ 0xFF7F then b.writeIo a v
  else { b with mem := Memory.write b.mem n v }

/-! ### The interrupt registers -/

/-- The byte IE, at 0xFFFF (R35). -/
def Bus.ie (b : Bus) : Byte := Memory.read b.mem 0xFFFF

/-- The byte IF, at 0xFF0F (R35, R57). -/
def Bus.iflags (b : Bus) : Byte := Memory.read b.mem 0xFF0F

/-- The bit position of an interrupt kind (R251). -/
def IrqKind.bit (k : IrqKind) : Nat :=
  match k with
  | .vblank => 0
  | .lcdc => 1
  | .timer => 2
  | .serial => 3
  | .joypad => 4

/-- The service-routine address `0x0040 + 8 * k` (R251). -/
def IrqKind.vector (k : IrqKind) : Word := 0x0040 + 8 * BitVec.ofNat 16 k.bit

/-- A byte with only the kind's bit set. -/
def IrqKind.mask (k : IrqKind) : Byte := 1 <<< k.bit

/-- `requestInterrupt(k)`: `IF[k] <- 1` (R255). -/
def Bus.requestInterrupt (b : Bus) (k : IrqKind) : Bus :=
  { b with mem := Memory.write b.mem 0xFF0F (b.iflags ||| k.mask) }

/-- `IF[k] <- 0` (R253). -/
def Bus.clearInterrupt (b : Bus) (k : IrqKind) : Bus :=
  { b with mem := Memory.write b.mem 0xFF0F (b.iflags &&& ~~~k.mask) }

/-- `IE[k] = 1 and IF[k] = 1` (R252). -/
def Bus.isPending (b : Bus) (k : IrqKind) : Bool := b.ie.getLsbD k.bit && b.iflags.getLsbD k.bit

/-- `SelectInterrupt()`: the first kind, in priority order, that is enabled and pending (R252). -/
def Bus.selectInterrupt (b : Bus) : Option IrqKind :=
  [IrqKind.vblank, .lcdc, .timer, .serial, .joypad].find? b.isPending

/-- `(IE & IF & 0x1F) != 0`: what wakes a halted core (R122, R258). -/
def Bus.anyPending (b : Bus) : Bool := b.ie &&& b.iflags &&& 0x1F != 0

/-! ### The devices' advance -/

/-- `TimerStep(t)` with the interrupt request of a reload (R262, R263). -/
def Bus.timerStep (b : Bus) (cycles : Nat) : Bus :=
  let b' := { b with timer := (b.timer.step cycles).1 }
  if (b.timer.step cycles).2 then b'.requestInterrupt .timer else b'

/-- `AudioCycle(t)`: the envelope and length inputs drawn from the free values (log 4), then the sweep, then the duty timer
(R271, D3). -/
def Bus.audioCycle (b : Bus) (cycles : Nat) : Bus :=
  { b with
    ch1 := ((b.ch1.envelopeLength (Config.freeVolume b.draws) (Config.freeExpiry b.draws)).sweepCycle cycles).dutyCycle cycles
    draws := b.draws + 1 }

/-- The device advances of one machine tick: the timer, then channel 1 (R131, D3). -/
def Bus.advance (b : Bus) (cycles : Nat) : Bus := (b.timerStep cycles).audioCycle cycles

end Sys2Proof.Machine
end

