-- ==== Sys2Proof/Machine/Ops.lean ====
section
/-! DEFINITION. The shared operations of the CPU: registers and pairs (R9, R20 to R23), one bus access (R10), the stack
(R166, R167), taking an interrupt and returning from one (R253, R257), fetching an instruction (R123) and retiring it
(R124, R125, R127, R130). -/

namespace Sys2Proof.Machine

/-- What a meaning answers. -/
abbrev Result := Host.Outcome State Fault Refusal

/-! ### Registers and pairs -/

/-- `x[i]` (R9, R103). -/
def Regs.get (x : Regs) (r : Reg8) : Byte :=
  match r with
  | .b => x.b
  | .c => x.c
  | .d => x.d
  | .e => x.e
  | .h => x.h
  | .l => x.l
  | .a => x.a

/-- `x[i] <- v` (R9, R103). -/
def Regs.set (x : Regs) (r : Reg8) (v : Byte) : Regs :=
  match r with
  | .b => { x with b := v }
  | .c => { x with c := v }
  | .d => { x with d := v }
  | .e => { x with e := v }
  | .h => { x with h := v }
  | .l => { x with l := v }
  | .a => { x with a := v }

/-- A read of F: bits 3–0 are zero (R21). -/
def Regs.readF (x : Regs) : Byte := x.f &&& 0xF0

/-- A write of F by any path: bits 3–0 are stored as zero (R21). -/
def Regs.writeF (x : Regs) (v : Byte) : Regs := { x with f := v &&& 0xF0 }

/-- `BC`, `DE`, `HL`, the high register first (R22). -/
def Regs.bc (x : Regs) : Word := joinBytes x.b x.c
def Regs.de (x : Regs) : Word := joinBytes x.d x.e
def Regs.hl (x : Regs) : Word := joinBytes x.h x.l
/-- `AF`, F read with its low bits zero (R21, R22). -/
def Regs.af (x : Regs) : Word := joinBytes x.a x.readF

def Regs.setBc (x : Regs) (v : Word) : Regs := { x with b := highByte v, c := lowByte v }
def Regs.setDe (x : Regs) (v : Word) : Regs := { x with d := highByte v, e := lowByte v }
def Regs.setHl (x : Regs) (v : Word) : Regs := { x with h := highByte v, l := lowByte v }
/-- Writing AF stores `F <- v[7:0] & 0xF0` (R21, R22). -/
def Regs.setAf (x : Regs) (v : Word) : Regs := { x with a := highByte v }.writeF (lowByte v)

/-- A register of the field `r`. -/
def State.reg (s : State) (r : Reg8) : Byte := s.regs.get r

def State.setReg (s : State) (r : Reg8) (v : Byte) : State := { s with regs := s.regs.set r v }

/-- The address HL. -/
def State.hl (s : State) : Word := s.regs.hl

def State.setHl (s : State) (v : Word) : State := { s with regs := s.regs.setHl v }

/-- A pair of the field `rp` (R103). -/
def State.pair (s : State) (p : Pair) : Word :=
  match p with
  | .bc => s.regs.bc
  | .de => s.regs.de
  | .hl => s.regs.hl
  | .sp => s.sp

def State.setPair (s : State) (p : Pair) (v : Word) : State :=
  match p with
  | .bc => { s with regs := s.regs.setBc v }
  | .de => { s with regs := s.regs.setDe v }
  | .hl => { s with regs := s.regs.setHl v }
  | .sp => { s with sp := v }

/-- A pair of the field `rp2` (R103). -/
def State.stackPair (s : State) (p : StackPair) : Word :=
  match p with
  | .bc => s.regs.bc
  | .de => s.regs.de
  | .hl => s.regs.hl
  | .af => s.regs.af

def State.setStackPair (s : State) (p : StackPair) (v : Word) : State :=
  match p with
  | .bc => { s with regs := s.regs.setBc v }
  | .de => { s with regs := s.regs.setDe v }
  | .hl => { s with regs := s.regs.setHl v }
  | .af => { s with regs := s.regs.setAf v }

/-! ### Bus accesses (R10) -/

/-- The byte that `MemRead(a, 1)` returns. -/
def State.byteAt (s : State) (a : Word) : Byte := s.bus.read a

/-- The state after `MemRead(a, 1)` (R68). -/
def State.afterRead (s : State) (a : Word) : State := { s with bus := s.bus.afterRead a }

/-- `MemWrite(a, 1, v)`. -/
def State.store (s : State) (a : Word) (v : Byte) : State := { s with bus := s.bus.write a v }

/-! ### The stack -/

/-- One byte pushed: `sp <- wrap16(sp - 1); MemWrite(sp, 1, v)` (R28, R166). -/
def State.push8 (s : State) (v : Byte) : State := { s with sp := s.sp - 1 }.store (s.sp - 1) v

/-- `Push16(v)`: the high byte, then the low byte (R166). -/
def State.push16 (s : State) (v : Word) : State := (s.push8 (highByte v)).push8 (lowByte v)

/-- The state after one byte is popped: `MemRead(sp, 1); sp <- wrap16(sp + 1)` (R28, R167). -/
def State.afterPop8 (s : State) : State := { s.afterRead s.sp with sp := s.sp + 1 }

/-- The value `Pop16()` returns: the low byte first (R167). -/
def State.popValue (s : State) : Word := joinBytes (s.afterPop8.byteAt s.afterPop8.sp) (s.byteAt s.sp)

/-- The state after `Pop16()` (R167). -/
def State.afterPop16 (s : State) : State := s.afterPop8.afterPop8

/-! ### Taking an interrupt, the one exception of CORE with an entry (R250, R253), and returning from it -/

/-- `ServiceInterrupt(k)` (R253): halted and IME cleared, the kind's IF bit cleared, the pc pushed, the pc at the vector. The
5 cycles it charges are added here (R120, R130). -/
def State.serviceInterrupt (s : State) (k : IrqKind) : State :=
  let s' := { s with halted := false, ime := false, bus := s.bus.clearInterrupt k }
  { s'.push16 s'.pc with pc := k.vector, cycles := s.cycles + 5 }

/-- The effect of RETI: the pc popped, IME set (R229, R257). -/
def State.returnFromInterrupt (s : State) : State := { s.afterPop16 with pc := s.popValue, ime := true }

/-! ### Fetching (R123) -/

/-- The instruction at `pc` and the state after its bytes are read in increasing address order, all before any effect of it
(R123, D9). -/
def State.fetch (s : State) : Instr × State :=
  let b0 := s.byteAt s.pc
  let s1 := s.afterRead s.pc
  if instrLength b0 = 1 then (decodeBytes b0 0 0, s1)
  else
    let b1 := s1.byteAt (s.pc + 1)
    let s2 := s1.afterRead (s.pc + 1)
    if instrLength b0 = 2 then (decodeBytes b0 b1 0, s2)
    else (decodeBytes b0 b1 (s2.byteAt (s.pc + 2)), s2.afterRead (s.pc + 2))

/-! ### Retiring an instruction (R120 step 3 and step 4) -/

/-- `cycles <- cycles + cost` (R130). -/
def State.charge (s : State) (cost : Nat) : State := { s with cycles := s.cycles + cost }

/-- `haltBug <- 0`: what every executed instruction does before its effect (R120, R127). -/
def State.consumeHaltBug (s : State) : State := { s with haltBug := false }

/-- The pc advance of an instruction that does not write `pc` itself, skipped when a halt bug was pending (R124, R127). -/
def State.advancePc (s : State) (bug : Bool) (len : Nat) : State :=
  if bug then s else { s with pc := s.pc + BitVec.ofNat 16 len }

/-- An unconditional instruction that does not write `pc`: its effect, then the pc advance, then its cost (R124). -/
def runFixed (len cost : Nat) (effect : State → State) (s : State) : Result :=
  .next (((effect s.consumeHaltBug).advancePc s.haltBug len).charge cost)

/-- An unconditional instruction that writes `pc` itself and suppresses the advance (R124). -/
def runJump (cost : Nat) (effect : State → State) (s : State) : Result :=
  .next ((effect s.consumeHaltBug).charge cost)

/-- A branching instruction: its own jump and the with-branch cost if the condition is true, the pc advance and the
without-branch cost if not (R125). -/
def runBranch (taken : Bool) (len costTaken costNotTaken : Nat) (effect : State → State) (s : State) : Result :=
  if taken then .next ((effect s.consumeHaltBug).charge costTaken)
  else .next ((s.consumeHaltBug.advancePc s.haltBug len).charge costNotTaken)

end Sys2Proof.Machine
end

