-- ==== Sys2Proof/Machine/Flags.lean ====
section
/-! DEFINITION. The flags (R24, R25) and every result and flag computation of the instruction rules. Arithmetic is on
unbounded numbers, narrowed at the end (R8, file 43's header). -/

namespace Sys2Proof.Machine

/-! ### The four flags in F (R24) -/

def Regs.flagZ (x : Regs) : Bool := x.f.getLsbD 7
def Regs.flagN (x : Regs) : Bool := x.f.getLsbD 6
def Regs.flagH (x : Regs) : Bool := x.f.getLsbD 5
def Regs.flagC (x : Regs) : Bool := x.f.getLsbD 4

/-- The masks of R24. -/
def maskZ : Byte := 0x80
def maskN : Byte := 0x40
def maskH : Byte := 0x20
def maskC : Byte := 0x10

/-- Setting a flag is `F <- F | mask`, clearing it `F <- F & inverse` (R24). -/
def putFlag (mask : Byte) (value : Bool) (f : Byte) : Byte := if value then f ||| mask else f &&& ~~~mask

/-- A flag that an instruction writes, or leaves unchanged. -/
def putFlag? (mask : Byte) (value : Option Bool) (f : Byte) : Byte :=
  match value with
  | some v => putFlag mask v f
  | none => f

/-- The flag effects of one instruction, in the order Z N H C of R111: `none` where the flag is unchanged. F's low bits stay
zero (R21). -/
def Regs.putFlags (x : Regs) (z n h c : Option Bool) : Regs :=
  x.writeF (putFlag? maskC c (putFlag? maskH h (putFlag? maskN n (putFlag? maskZ z x.f))))

def State.putFlags (s : State) (z n h c : Option Bool) : State := { s with regs := s.regs.putFlags z n h c }

/-- The carry flag as the number 0 or 1. -/
def State.carry (s : State) : Nat := s.regs.flagC.toNat

/-! ### 8-bit arithmetic (R171 to R178) -/

/-- A result with the four flags it sets. -/
structure AluResult where
  value : Byte
  z : Bool
  n : Bool
  h : Bool
  c : Bool
deriving DecidableEq, Repr

/-- `ADD` and `ADC` (R171, R172): `carry` is 0 or the old C. -/
def aluAdd (a s : Byte) (carry : Nat) : AluResult :=
  let value := BitVec.ofNat 8 (a.toNat + s.toNat + carry)
  { value := value
    z := value == 0
    n := false
    h := decide (0x0F < a.toNat % 16 + s.toNat % 16 + carry)
    c := decide (0xFF < a.toNat + s.toNat + carry) }

/-- `SUB`, `SBC` and `CP` (R173, R174, R178): `borrow` is 0 or the old C. -/
def aluSub (a s : Byte) (borrow : Nat) : AluResult :=
  let value := a - s - BitVec.ofNat 8 borrow
  { value := value
    z := value == 0
    n := true
    h := decide (a.toNat % 16 < s.toNat % 16 + borrow)
    c := decide (a.toNat < s.toNat + borrow) }

/-- `AND`, `XOR`, `OR` (R175 to R177): H is 1 for AND alone, N and C are 0. -/
def aluLogic (value : Byte) (h : Bool) : AluResult :=
  { value := value, z := value == 0, n := false, h := h, c := false }

/-- The 8-bit ALU group on A and the source, with the old carry (R105, R171 to R178). -/
def alu (op : AluOp) (a s : Byte) (carry : Nat) : AluResult :=
  match op with
  | .add => aluAdd a s 0
  | .adc => aluAdd a s carry
  | .sub => aluSub a s 0
  | .sbc => aluSub a s carry
  | .and => aluLogic (a &&& s) true
  | .xor => aluLogic (a ^^^ s) false
  | .or => aluLogic (a ||| s) false
  | .cp => aluSub a s 0

/-- Whether the operation writes its result to A: every one but CP (R178). -/
def aluWritesA (op : AluOp) : Bool :=
  match op with
  | .cp => false
  | _ => true

/-! ### 8-bit increment and decrement (R179 to R182) -/

/-- The half-carry of `INC`: the low nibble was 0xF (R179, R180). -/
def incHalf (v : Byte) : Bool := v &&& 0x0F == 0x0F

/-- The half-borrow of `DEC`: the low nibble was 0x0 (R181, R182). -/
def decHalf (v : Byte) : Bool := v &&& 0x0F == 0x00

/-! ### Decimal adjust (R183) -/

/-- Whether DAA adjusts by 0x60 after an addition, which also sets C (R183). -/
def daaHigh (a : Byte) (c : Bool) : Bool := c || decide (0x99 < a.toNat)

/-- The adjustment after an addition (R183). -/
def daaAddAdjust (a : Byte) (h c : Bool) : Byte :=
  (if h || decide (0x09 < a.toNat % 16) then 0x06 else 0x00) ||| (if daaHigh a c then 0x60 else 0x00)

/-- The adjustment after a subtraction (R183). -/
def daaSubAdjust (h c : Bool) : Byte := (if h then 0x06 else 0x00) ||| (if c then 0x60 else 0x00)

/-- DAA's result (R183). -/
def daaValue (a : Byte) (n h c : Bool) : Byte :=
  if n then a - daaSubAdjust h c else a + daaAddAdjust a h c

/-- DAA's carry: set by a 0x60 adjustment after an addition, else kept (R183). -/
def daaCarry (a : Byte) (n c : Bool) : Bool := if n then c else daaHigh a c

/-! ### 16-bit additions (R165, R190, R193) -/

/-- The carry out of bit 11 of `ADD HL,rp` (R190). -/
def addHlHalf (hl v : Word) : Bool := decide (0x0FFF < hl.toNat % 4096 + v.toNat % 4096)

/-- The carry out of bit 15 of `ADD HL,rp` (R190). -/
def addHlCarry (hl v : Word) : Bool := decide (0xFFFF < hl.toNat + v.toNat)

/-- The carry out of bit 3 of the low byte of `sp` plus the raw byte (R165, R193). -/
def addSpHalf (sp : Word) (u : Byte) : Bool := decide (0x0F < sp.toNat % 16 + u.toNat % 16)

/-- The carry out of bit 7 of the low byte of `sp` plus the raw byte (R165, R193). -/
def addSpCarry (sp : Word) (u : Byte) : Bool := decide (0xFF < sp.toNat % 256 + u.toNat)

/-! ### Rotates and shifts (R200 to R212) -/

/-- The bit `c` that becomes C: bit 7 for the left ones, bit 0 for the right ones, 0 for SWAP (R205 to R212). -/
def rotCarry (op : RotOp) (v : Byte) : Bool :=
  match op with
  | .rlc => v.getLsbD 7
  | .rrc => v.getLsbD 0
  | .rl => v.getLsbD 7
  | .rr => v.getLsbD 0
  | .sla => v.getLsbD 7
  | .sra => v.getLsbD 0
  | .swap => false
  | .srl => v.getLsbD 0

/-- A bit as the byte 0 or 1. -/
def bitByte (b : Bool) : Byte := if b then 1 else 0

/-- The result of a rotate or shift; `carry` is the old C (R205 to R212). -/
def rotValue (op : RotOp) (v : Byte) (carry : Bool) : Byte :=
  match op with
  | .rlc => (v <<< 1) ||| bitByte (v.getLsbD 7)
  | .rrc => (v >>> 1) ||| (bitByte (v.getLsbD 0) <<< 7)
  | .rl => (v <<< 1) ||| bitByte carry
  | .rr => (v >>> 1) ||| (bitByte carry <<< 7)
  | .sla => v <<< 1
  | .sra => (v >>> 1) ||| (v &&& 0x80)
  | .swap => ((v &&& 0x0F) <<< 4) ||| (v >>> 4)
  | .srl => v >>> 1

/-! ### Bits (R213 to R215) -/

/-- `v & (0xFF ^ (1 << b))` (R214). -/
def clearBit (n : Fin 8) (v : Byte) : Byte := v &&& (0xFF ^^^ ((1 : Byte) <<< n.val))

/-- `v | (1 << b)` (R215). -/
def putBit (n : Fin 8) (v : Byte) : Byte := v ||| ((1 : Byte) <<< n.val)

end Sys2Proof.Machine
end

