-- ==== Sys2Proof/Machine/Operands.lean ====
section
/-! DEFINITION. The operand forms: the register-field operand with its memory form (R103, R204), the ALU source (R170), the
addresses of the memory forms (R106, R145 to R156), displacements (R8, R106) and conditions (R104). -/

namespace Sys2Proof.Machine

/-! ### The operand of a register field -/

/-- `ReadT()`: the value (R204). -/
def State.targetValue (s : State) (t : Target) : Byte :=
  match t with
  | .reg r => s.reg r
  | .atHl => s.byteAt s.hl

/-- `ReadT()`: the state after it (R204). -/
def State.afterTarget (s : State) (t : Target) : State :=
  match t with
  | .reg _ => s
  | .atHl => s.afterRead s.hl

/-- `WriteT(r)` (R204). -/
def State.putTarget (s : State) (t : Target) (v : Byte) : State :=
  match t with
  | .reg r => s.setReg r v
  | .atHl => s.store s.hl v

/-- The cost of an instruction on a register-field operand: one for the register form, one for the (HL) form (R111). -/
def targetCost (t : Target) (register memory : Nat) : Nat :=
  match t with
  | .reg _ => register
  | .atHl => memory

/-! ### The ALU source (R170) -/

/-- The value `s`. -/
def State.srcValue (s : State) (src : AluSrc) : Byte :=
  match src with
  | .reg r => s.reg r
  | .atHl => s.byteAt s.hl
  | .imm n8 => n8

/-- The state after `s` is read, once. -/
def State.afterSrc (s : State) (src : AluSrc) : State :=
  match src with
  | .reg _ => s
  | .atHl => s.afterRead s.hl
  | .imm _ => s

/-- The length of an ALU instruction (R170). -/
def srcLength (src : AluSrc) : Nat :=
  match src with
  | .reg _ => 1
  | .atHl => 1
  | .imm _ => 2

/-- The cost of an ALU instruction (R170). -/
def srcCost (src : AluSrc) : Nat :=
  match src with
  | .reg _ => 1
  | .atHl => 2
  | .imm _ => 2

/-! ### Addresses and displacements (R8, R106) -/

/-- `0xFF00 + n8`, the address of the `LDH` and `(C)` forms (R106). -/
def highPage (n8 : Byte) : Word := 0xFF00 + n8.setWidth 16

/-- `sext_16` of a displacement byte (R8). -/
def displacement (e8 : Byte) : Word := e8.signExtend 16

/-- The target of a relative jump: `wrap16(pc + 2 + e8)` (R106). -/
def relativeTarget (pc : Word) (e8 : Byte) : Word := pc + 2 + displacement e8

/-- The target of `RST`: `y * 8` (R106, R230). -/
def restartTarget (y : Fin 8) : Word := BitVec.ofNat 16 (y.val * 8)

/-! ### Conditions (R104) -/

/-- `Cond(cc)`, evaluated on F. -/
def State.holds (s : State) (cc : Cond) : Bool :=
  match cc with
  | .nz => !s.regs.flagZ
  | .z => s.regs.flagZ
  | .nc => !s.regs.flagC
  | .c => s.regs.flagC

end Sys2Proof.Machine
end

