-- ==== Sys2Proof/Machine/Loads16.lean ====
section
/-! DEFINITION. The 16-bit loads and the stack instructions (R160 to R165): the shared operations, then one meaning per
instruction. -/

namespace Sys2Proof.Machine

/-- `rp[p] <- n16` (R160). -/
def runLoadPairImm (p : Pair) (n16 : Word) (s : State) : Result := runFixed 3 3 (fun s => s.setPair p n16) s

/-- `Push16(rp2[p])` (R163). -/
def runPush (p : StackPair) (s : State) : Result := runFixed 1 4 (fun s => s.push16 (s.stackPair p)) s

/-- `v <- Pop16(); rp2[p] <- v` (R164). -/
def runPop (p : StackPair) (s : State) : Result :=
  runFixed 1 3 (fun s => s.afterPop16.setStackPair p s.popValue) s

/-- The flags of `LD HL,SP+e8` and `ADD SP,e8`: Z 0, N 0, H and C from the unsigned addition of the raw byte to the low byte
of the old `sp` (R165, R193). -/
def State.spFlags (s : State) (sp : Word) (u : Byte) : State :=
  s.putFlags (some false) (some false) (some (addSpHalf sp u)) (some (addSpCarry sp u))

/-- `LD BC,n16`, 01, R160. -/
def execLdBcN16 (n16 : Word) (s : State) : Result := runLoadPairImm .bc n16 s

/-- `LD (n16),SP`, 08, R161. -/
def execLdMemSp (n16 : Word) (s : State) : Result :=
  runFixed 3 5 (fun s => (s.store n16 (lowByte s.sp)).store (n16 + 1) (highByte s.sp)) s

/-- `LD DE,n16`, 11, R160. -/
def execLdDeN16 (n16 : Word) (s : State) : Result := runLoadPairImm .de n16 s

/-- `LD HL,n16`, 21, R160. -/
def execLdHlN16 (n16 : Word) (s : State) : Result := runLoadPairImm .hl n16 s

/-- `LD SP,n16`, 31, R160. -/
def execLdSpN16 (n16 : Word) (s : State) : Result := runLoadPairImm .sp n16 s

/-- `POP BC`, C1, R164. -/
def execPopBc (s : State) : Result := runPop .bc s

/-- `PUSH BC`, C5, R163. -/
def execPushBc (s : State) : Result := runPush .bc s

/-- `POP DE`, D1, R164. -/
def execPopDe (s : State) : Result := runPop .de s

/-- `PUSH DE`, D5, R163. -/
def execPushDe (s : State) : Result := runPush .de s

/-- `POP HL`, E1, R164. -/
def execPopHl (s : State) : Result := runPop .hl s

/-- `PUSH HL`, E5, R163. -/
def execPushHl (s : State) : Result := runPush .hl s

/-- `POP AF`, F1, R164. -/
def execPopAf (s : State) : Result := runPop .af s

/-- `PUSH AF`, F5, R163. -/
def execPushAf (s : State) : Result := runPush .af s

/-- `LD HL,SP+e8`, F8, R165. -/
def execLdHlSpE8 (e8 : Byte) (s : State) : Result :=
  runFixed 2 3 (fun s => (s.setHl (s.sp + displacement e8)).spFlags s.sp e8) s

/-- `LD SP,HL`, F9, R162. -/
def execLdSpHl (s : State) : Result := runFixed 1 2 (fun s => { s with sp := s.hl }) s

end Sys2Proof.Machine
end

