-- ==== Sys2Proof/Machine/Alu16.lean ====
section
/-! DEFINITION. The 16-bit arithmetic (R190 to R193): the shared operations, then one meaning per instruction. -/

namespace Sys2Proof.Machine

/-- `HL <- wrap16(HL + rp[p])` with N 0, H, C; Z unchanged (R190). -/
def runAddHl (p : Pair) (s : State) : Result :=
  runFixed 1 2
    (fun s =>
      (s.setHl (s.hl + s.pair p)).putFlags none (some false) (some (addHlHalf s.hl (s.pair p)))
        (some (addHlCarry s.hl (s.pair p))))
    s

/-- `rp[p] <- wrap16(rp[p] + step)`, no flag (R191, R192). -/
def runStepPair (p : Pair) (step : Word) (s : State) : Result :=
  runFixed 1 2 (fun s => s.setPair p (s.pair p + step)) s

/-- `INC BC`, 03, R191. -/
def execIncBc (s : State) : Result := runStepPair .bc 1 s

/-- `ADD HL,BC`, 09, R190. -/
def execAddHlBc (s : State) : Result := runAddHl .bc s

/-- `DEC BC`, 0B, R192. -/
def execDecBc (s : State) : Result := runStepPair .bc (-1) s

/-- `INC DE`, 13, R191. -/
def execIncDe (s : State) : Result := runStepPair .de 1 s

/-- `ADD HL,DE`, 19, R190. -/
def execAddHlDe (s : State) : Result := runAddHl .de s

/-- `DEC DE`, 1B, R192. -/
def execDecDe (s : State) : Result := runStepPair .de (-1) s

/-- `INC HL`, 23, R191. -/
def execIncHl (s : State) : Result := runStepPair .hl 1 s

/-- `ADD HL,HL`, 29, R190. -/
def execAddHlHl (s : State) : Result := runAddHl .hl s

/-- `DEC HL`, 2B, R192. -/
def execDecHl (s : State) : Result := runStepPair .hl (-1) s

/-- `INC SP`, 33, R191. -/
def execIncSp (s : State) : Result := runStepPair .sp 1 s

/-- `ADD HL,SP`, 39, R190. -/
def execAddHlSp (s : State) : Result := runAddHl .sp s

/-- `DEC SP`, 3B, R192. -/
def execDecSp (s : State) : Result := runStepPair .sp (-1) s

/-- `ADD SP,e8`, E8, R193. -/
def execAddSpE8 (e8 : Byte) (s : State) : Result :=
  runFixed 2 4 (fun s => { s with sp := s.sp + displacement e8 }.spFlags s.sp e8) s

end Sys2Proof.Machine
end

