-- ==== Sys2Proof/Machine/Alu8.lean ====
section
/-! DEFINITION. The 8-bit arithmetic and logic (R170 to R186): the shared operations, then one meaning per instruction. -/

namespace Sys2Proof.Machine

/-- The four flags of an ALU result. -/
def State.putResultFlags (s : State) (r : AluResult) : State := s.putFlags (some r.z) (some r.n) (some r.h) (some r.c)

/-- The result of an ALU operation written to A, but for CP, which writes only the flags (R171 to R178). -/
def State.putAlu (s : State) (op : AluOp) (r : AluResult) : State :=
  (if aluWritesA op then s.setReg .a r.value else s).putResultFlags r

/-- The 8-bit ALU group: the source is read once, before A is written (R170 to R178). -/
def runAlu (op : AluOp) (src : AluSrc) (s : State) : Result :=
  runFixed (srcLength src) (srcCost src) (fun s => (s.afterSrc src).putAlu op (alu op s.regs.a (s.srcValue src) s.carry)) s

/-- `INC r` and `INC (HL)`; C unchanged (R179, R180). -/
def runInc (t : Target) (s : State) : Result :=
  runFixed 1 (targetCost t 1 3)
    (fun s =>
      ((s.afterTarget t).putTarget t (s.targetValue t + 1)).putFlags (some (s.targetValue t + 1 == 0)) (some false)
        (some (incHalf (s.targetValue t))) none)
    s

/-- `DEC r` and `DEC (HL)`; C unchanged (R181, R182). -/
def runDec (t : Target) (s : State) : Result :=
  runFixed 1 (targetCost t 1 3)
    (fun s =>
      ((s.afterTarget t).putTarget t (s.targetValue t - 1)).putFlags (some (s.targetValue t - 1 == 0)) (some true)
        (some (decHalf (s.targetValue t))) none)
    s

/-- The effect of DAA; N unchanged (R183). -/
def State.decimalAdjust (s : State) : State :=
  let value := daaValue s.regs.a s.regs.flagN s.regs.flagH s.regs.flagC
  (s.setReg .a value).putFlags (some (value == 0)) none (some false)
    (some (daaCarry s.regs.a s.regs.flagN s.regs.flagC))

/-- `INC B`, 04, R179. -/
def execIncB (s : State) : Result := runInc (.reg .b) s

/-- `DEC B`, 05, R181. -/
def execDecB (s : State) : Result := runDec (.reg .b) s

/-- `INC C`, 0C, R179. -/
def execIncC (s : State) : Result := runInc (.reg .c) s

/-- `DEC C`, 0D, R181. -/
def execDecC (s : State) : Result := runDec (.reg .c) s

/-- `INC D`, 14, R179. -/
def execIncD (s : State) : Result := runInc (.reg .d) s

/-- `DEC D`, 15, R181. -/
def execDecD (s : State) : Result := runDec (.reg .d) s

/-- `INC E`, 1C, R179. -/
def execIncE (s : State) : Result := runInc (.reg .e) s

/-- `DEC E`, 1D, R181. -/
def execDecE (s : State) : Result := runDec (.reg .e) s

/-- `INC H`, 24, R179. -/
def execIncH (s : State) : Result := runInc (.reg .h) s

/-- `DEC H`, 25, R181. -/
def execDecH (s : State) : Result := runDec (.reg .h) s

/-- `DAA`, 27, R183. -/
def execDaa (s : State) : Result := runFixed 1 1 State.decimalAdjust s

/-- `INC L`, 2C, R179. -/
def execIncL (s : State) : Result := runInc (.reg .l) s

/-- `DEC L`, 2D, R181. -/
def execDecL (s : State) : Result := runDec (.reg .l) s

/-- `CPL`, 2F, R184. -/
def execCpl (s : State) : Result :=
  runFixed 1 1 (fun s => (s.setReg .a (s.regs.a ^^^ 0xFF)).putFlags none (some true) (some true) none) s

/-- `INC (HL)`, 34, R180. -/
def execIncIndHl (s : State) : Result := runInc .atHl s

/-- `DEC (HL)`, 35, R182. -/
def execDecIndHl (s : State) : Result := runDec .atHl s

/-- `SCF`, 37, R185. -/
def execScf (s : State) : Result := runFixed 1 1 (fun s => s.putFlags none (some false) (some false) (some true)) s

/-- `INC A`, 3C, R179. -/
def execIncA (s : State) : Result := runInc (.reg .a) s

/-- `DEC A`, 3D, R181. -/
def execDecA (s : State) : Result := runDec (.reg .a) s

/-- `CCF`, 3F, R186. -/
def execCcf (s : State) : Result :=
  runFixed 1 1 (fun s => s.putFlags none (some false) (some false) (some !s.regs.flagC)) s

/-- `ADD A,B`, 80, R171. -/
def execAddAB (s : State) : Result := runAlu .add (.reg .b) s

/-- `ADD A,C`, 81, R171. -/
def execAddAC (s : State) : Result := runAlu .add (.reg .c) s

/-- `ADD A,D`, 82, R171. -/
def execAddAD (s : State) : Result := runAlu .add (.reg .d) s

/-- `ADD A,E`, 83, R171. -/
def execAddAE (s : State) : Result := runAlu .add (.reg .e) s

/-- `ADD A,H`, 84, R171. -/
def execAddAH (s : State) : Result := runAlu .add (.reg .h) s

/-- `ADD A,L`, 85, R171. -/
def execAddAL (s : State) : Result := runAlu .add (.reg .l) s

/-- `ADD A,(HL)`, 86, R171. -/
def execAddAIndHl (s : State) : Result := runAlu .add .atHl s

/-- `ADD A,A`, 87, R171. -/
def execAddAA (s : State) : Result := runAlu .add (.reg .a) s

/-- `ADC A,B`, 88, R172. -/
def execAdcAB (s : State) : Result := runAlu .adc (.reg .b) s

/-- `ADC A,C`, 89, R172. -/
def execAdcAC (s : State) : Result := runAlu .adc (.reg .c) s

/-- `ADC A,D`, 8A, R172. -/
def execAdcAD (s : State) : Result := runAlu .adc (.reg .d) s

/-- `ADC A,E`, 8B, R172. -/
def execAdcAE (s : State) : Result := runAlu .adc (.reg .e) s

/-- `ADC A,H`, 8C, R172. -/
def execAdcAH (s : State) : Result := runAlu .adc (.reg .h) s

/-- `ADC A,L`, 8D, R172. -/
def execAdcAL (s : State) : Result := runAlu .adc (.reg .l) s

/-- `ADC A,(HL)`, 8E, R172. -/
def execAdcAIndHl (s : State) : Result := runAlu .adc .atHl s

/-- `ADC A,A`, 8F, R172. -/
def execAdcAA (s : State) : Result := runAlu .adc (.reg .a) s

/-- `SUB B`, 90, R173. -/
def execSubB (s : State) : Result := runAlu .sub (.reg .b) s

/-- `SUB C`, 91, R173. -/
def execSubC (s : State) : Result := runAlu .sub (.reg .c) s

/-- `SUB D`, 92, R173. -/
def execSubD (s : State) : Result := runAlu .sub (.reg .d) s

/-- `SUB E`, 93, R173. -/
def execSubE (s : State) : Result := runAlu .sub (.reg .e) s

/-- `SUB H`, 94, R173. -/
def execSubH (s : State) : Result := runAlu .sub (.reg .h) s

/-- `SUB L`, 95, R173. -/
def execSubL (s : State) : Result := runAlu .sub (.reg .l) s

/-- `SUB (HL)`, 96, R173. -/
def execSubIndHl (s : State) : Result := runAlu .sub .atHl s

/-- `SUB A`, 97, R173. -/
def execSubA (s : State) : Result := runAlu .sub (.reg .a) s

/-- `SBC A,B`, 98, R174. -/
def execSbcAB (s : State) : Result := runAlu .sbc (.reg .b) s

/-- `SBC A,C`, 99, R174. -/
def execSbcAC (s : State) : Result := runAlu .sbc (.reg .c) s

/-- `SBC A,D`, 9A, R174. -/
def execSbcAD (s : State) : Result := runAlu .sbc (.reg .d) s

/-- `SBC A,E`, 9B, R174. -/
def execSbcAE (s : State) : Result := runAlu .sbc (.reg .e) s

/-- `SBC A,H`, 9C, R174. -/
def execSbcAH (s : State) : Result := runAlu .sbc (.reg .h) s

/-- `SBC A,L`, 9D, R174. -/
def execSbcAL (s : State) : Result := runAlu .sbc (.reg .l) s

/-- `SBC A,(HL)`, 9E, R174. -/
def execSbcAIndHl (s : State) : Result := runAlu .sbc .atHl s

/-- `SBC A,A`, 9F, R174. -/
def execSbcAA (s : State) : Result := runAlu .sbc (.reg .a) s

/-- `AND B`, A0, R175. -/
def execAndB (s : State) : Result := runAlu .and (.reg .b) s

/-- `AND C`, A1, R175. -/
def execAndC (s : State) : Result := runAlu .and (.reg .c) s

/-- `AND D`, A2, R175. -/
def execAndD (s : State) : Result := runAlu .and (.reg .d) s

/-- `AND E`, A3, R175. -/
def execAndE (s : State) : Result := runAlu .and (.reg .e) s

/-- `AND H`, A4, R175. -/
def execAndH (s : State) : Result := runAlu .and (.reg .h) s

/-- `AND L`, A5, R175. -/
def execAndL (s : State) : Result := runAlu .and (.reg .l) s

/-- `AND (HL)`, A6, R175. -/
def execAndIndHl (s : State) : Result := runAlu .and .atHl s

/-- `AND A`, A7, R175. -/
def execAndA (s : State) : Result := runAlu .and (.reg .a) s

/-- `XOR B`, A8, R176. -/
def execXorB (s : State) : Result := runAlu .xor (.reg .b) s

/-- `XOR C`, A9, R176. -/
def execXorC (s : State) : Result := runAlu .xor (.reg .c) s

/-- `XOR D`, AA, R176. -/
def execXorD (s : State) : Result := runAlu .xor (.reg .d) s

/-- `XOR E`, AB, R176. -/
def execXorE (s : State) : Result := runAlu .xor (.reg .e) s

/-- `XOR H`, AC, R176. -/
def execXorH (s : State) : Result := runAlu .xor (.reg .h) s

/-- `XOR L`, AD, R176. -/
def execXorL (s : State) : Result := runAlu .xor (.reg .l) s

/-- `XOR (HL)`, AE, R176. -/
def execXorIndHl (s : State) : Result := runAlu .xor .atHl s

/-- `XOR A`, AF, R176. -/
def execXorA (s : State) : Result := runAlu .xor (.reg .a) s

/-- `OR B`, B0, R177. -/
def execOrB (s : State) : Result := runAlu .or (.reg .b) s

/-- `OR C`, B1, R177. -/
def execOrC (s : State) : Result := runAlu .or (.reg .c) s

/-- `OR D`, B2, R177. -/
def execOrD (s : State) : Result := runAlu .or (.reg .d) s

/-- `OR E`, B3, R177. -/
def execOrE (s : State) : Result := runAlu .or (.reg .e) s

/-- `OR H`, B4, R177. -/
def execOrH (s : State) : Result := runAlu .or (.reg .h) s

/-- `OR L`, B5, R177. -/
def execOrL (s : State) : Result := runAlu .or (.reg .l) s

/-- `OR (HL)`, B6, R177. -/
def execOrIndHl (s : State) : Result := runAlu .or .atHl s

/-- `OR A`, B7, R177. -/
def execOrA (s : State) : Result := runAlu .or (.reg .a) s

/-- `CP B`, B8, R178. -/
def execCpB (s : State) : Result := runAlu .cp (.reg .b) s

/-- `CP C`, B9, R178. -/
def execCpC (s : State) : Result := runAlu .cp (.reg .c) s

/-- `CP D`, BA, R178. -/
def execCpD (s : State) : Result := runAlu .cp (.reg .d) s

/-- `CP E`, BB, R178. -/
def execCpE (s : State) : Result := runAlu .cp (.reg .e) s

/-- `CP H`, BC, R178. -/
def execCpH (s : State) : Result := runAlu .cp (.reg .h) s

/-- `CP L`, BD, R178. -/
def execCpL (s : State) : Result := runAlu .cp (.reg .l) s

/-- `CP (HL)`, BE, R178. -/
def execCpIndHl (s : State) : Result := runAlu .cp .atHl s

/-- `CP A`, BF, R178. -/
def execCpA (s : State) : Result := runAlu .cp (.reg .a) s

/-- `ADD A,n8`, C6, R171. -/
def execAddAN8 (n8 : Byte) (s : State) : Result := runAlu .add (.imm n8) s

/-- `ADC A,n8`, CE, R172. -/
def execAdcAN8 (n8 : Byte) (s : State) : Result := runAlu .adc (.imm n8) s

/-- `SUB n8`, D6, R173. -/
def execSubN8 (n8 : Byte) (s : State) : Result := runAlu .sub (.imm n8) s

/-- `SBC A,n8`, DE, R174. -/
def execSbcAN8 (n8 : Byte) (s : State) : Result := runAlu .sbc (.imm n8) s

/-- `AND n8`, E6, R175. -/
def execAndN8 (n8 : Byte) (s : State) : Result := runAlu .and (.imm n8) s

/-- `XOR n8`, EE, R176. -/
def execXorN8 (n8 : Byte) (s : State) : Result := runAlu .xor (.imm n8) s

/-- `OR n8`, F6, R177. -/
def execOrN8 (n8 : Byte) (s : State) : Result := runAlu .or (.imm n8) s

/-- `CP n8`, FE, R178. -/
def execCpN8 (n8 : Byte) (s : State) : Result := runAlu .cp (.imm n8) s

end Sys2Proof.Machine
end

