-- ==== Sys2Proof/Machine/Control.lean ====
section
/-! DEFINITION. Control transfer (R220 to R230): the effects, the shared operations, then one meaning per instruction. An
effect runs with `pc` at the instruction's first byte (R124). -/

namespace Sys2Proof.Machine

/-- `pc <- target` (R220, R222). -/
def State.jumpTo (target : Word) (s : State) : State := { s with pc := target }

/-- `pc <- wrap16(pc + 2 + sext_16(e8))` (R223). -/
def State.jumpBy (e8 : Byte) (s : State) : State := { s with pc := relativeTarget s.pc e8 }

/-- `Push16(wrap16(pc + 3)); pc <- n16` (R225). -/
def State.call (n16 : Word) (s : State) : State := { s.push16 (s.pc + 3) with pc := n16 }

/-- `pc <- Pop16()` (R227). -/
def State.ret (s : State) : State := { s.afterPop16 with pc := s.popValue }

/-- `JR cc,e8` (R224). -/
def runJumpRelIf (cc : Cond) (e8 : Byte) (s : State) : Result := runBranch (s.holds cc) 2 3 2 (State.jumpBy e8) s

/-- `JP cc,n16` (R221). -/
def runJumpIf (cc : Cond) (n16 : Word) (s : State) : Result := runBranch (s.holds cc) 3 4 3 (State.jumpTo n16) s

/-- `CALL cc,n16` (R226). -/
def runCallIf (cc : Cond) (n16 : Word) (s : State) : Result := runBranch (s.holds cc) 3 6 3 (State.call n16) s

/-- `RET cc` (R228). -/
def runReturnIf (cc : Cond) (s : State) : Result := runBranch (s.holds cc) 1 5 2 State.ret s

/-- `Push16(wrap16(pc + 1)); pc <- y * 8` (R230). -/
def runRestart (y : Fin 8) (s : State) : Result :=
  runJump 4 (fun s => { s.push16 (s.pc + 1) with pc := restartTarget y }) s

/-- `JR e8`, 18, R223. -/
def execJrE8 (e8 : Byte) (s : State) : Result := runJump 3 (State.jumpBy e8) s

/-- `JR NZ,e8`, 20, R224. -/
def execJrNzE8 (e8 : Byte) (s : State) : Result := runJumpRelIf .nz e8 s

/-- `JR Z,e8`, 28, R224. -/
def execJrZE8 (e8 : Byte) (s : State) : Result := runJumpRelIf .z e8 s

/-- `JR NC,e8`, 30, R224. -/
def execJrNcE8 (e8 : Byte) (s : State) : Result := runJumpRelIf .nc e8 s

/-- `JR C,e8`, 38, R224. -/
def execJrCE8 (e8 : Byte) (s : State) : Result := runJumpRelIf .c e8 s

/-- `RET NZ`, C0, R228. -/
def execRetNz (s : State) : Result := runReturnIf .nz s

/-- `JP NZ,n16`, C2, R221. -/
def execJpNzN16 (n16 : Word) (s : State) : Result := runJumpIf .nz n16 s

/-- `JP n16`, C3, R220. -/
def execJpN16 (n16 : Word) (s : State) : Result := runJump 4 (State.jumpTo n16) s

/-- `CALL NZ,n16`, C4, R226. -/
def execCallNzN16 (n16 : Word) (s : State) : Result := runCallIf .nz n16 s

/-- `RST 0x00`, C7, R230. -/
def execRst00 (s : State) : Result := runRestart 0 s

/-- `RET Z`, C8, R228. -/
def execRetZ (s : State) : Result := runReturnIf .z s

/-- `RET`, C9, R227. -/
def execRet (s : State) : Result := runJump 4 State.ret s

/-- `JP Z,n16`, CA, R221. -/
def execJpZN16 (n16 : Word) (s : State) : Result := runJumpIf .z n16 s

/-- `CALL Z,n16`, CC, R226. -/
def execCallZN16 (n16 : Word) (s : State) : Result := runCallIf .z n16 s

/-- `CALL n16`, CD, R225. -/
def execCallN16 (n16 : Word) (s : State) : Result := runJump 6 (State.call n16) s

/-- `RST 0x08`, CF, R230. -/
def execRst08 (s : State) : Result := runRestart 1 s

/-- `RET NC`, D0, R228. -/
def execRetNc (s : State) : Result := runReturnIf .nc s

/-- `JP NC,n16`, D2, R221. -/
def execJpNcN16 (n16 : Word) (s : State) : Result := runJumpIf .nc n16 s

/-- `CALL NC,n16`, D4, R226. -/
def execCallNcN16 (n16 : Word) (s : State) : Result := runCallIf .nc n16 s

/-- `RST 0x10`, D7, R230. -/
def execRst10 (s : State) : Result := runRestart 2 s

/-- `RET C`, D8, R228. -/
def execRetC (s : State) : Result := runReturnIf .c s

/-- `RETI`, D9, R229. -/
def execReti (s : State) : Result := runJump 4 State.returnFromInterrupt s

/-- `JP C,n16`, DA, R221. -/
def execJpCN16 (n16 : Word) (s : State) : Result := runJumpIf .c n16 s

/-- `CALL C,n16`, DC, R226. -/
def execCallCN16 (n16 : Word) (s : State) : Result := runCallIf .c n16 s

/-- `RST 0x18`, DF, R230. -/
def execRst18 (s : State) : Result := runRestart 3 s

/-- `RST 0x20`, E7, R230. -/
def execRst20 (s : State) : Result := runRestart 4 s

/-- `JP HL`, E9, R222. -/
def execJpHl (s : State) : Result := runJump 1 (State.jumpTo s.hl) s

/-- `RST 0x28`, EF, R230. -/
def execRst28 (s : State) : Result := runRestart 5 s

/-- `RST 0x30`, F7, R230. -/
def execRst30 (s : State) : Result := runRestart 6 s

/-- `RST 0x38`, FF, R230. -/
def execRst38 (s : State) : Result := runRestart 7 s

end Sys2Proof.Machine
end

