-- ==== Sys2Proof/Machine/Loads8.lean ====
section
/-! DEFINITION. The 8-bit loads (R140 to R156): the shared operations, then one meaning per instruction. None writes F,
none raises an exception (file 41's header). -/

namespace Sys2Proof.Machine

/-- `x[y] <- x[z]` (R140). -/
def runLoadRegReg (dst src : Reg8) (s : State) : Result := runFixed 1 1 (fun s => s.setReg dst (s.reg src)) s

/-- `x[y] <- n8` (R141). -/
def runLoadRegImm (dst : Reg8) (n8 : Byte) (s : State) : Result := runFixed 2 2 (fun s => s.setReg dst n8) s

/-- `x[y] <- MemRead(HL, 1)` (R142). -/
def runLoadRegMem (dst : Reg8) (s : State) : Result :=
  runFixed 1 2 (fun s => (s.afterRead s.hl).setReg dst (s.byteAt s.hl)) s

/-- `MemWrite(HL, 1, x[z])` (R143). -/
def runStoreMemReg (src : Reg8) (s : State) : Result := runFixed 1 2 (fun s => s.store s.hl (s.reg src)) s

/-- `A <- MemRead(a, 1)` (R145, R147, R149, R151). -/
def runLoadA (len cost : Nat) (a : Word) (s : State) : Result :=
  runFixed len cost (fun s => (s.afterRead a).setReg .a (s.byteAt a)) s

/-- `MemWrite(a, 1, A)` (R146, R148, R150, R152). -/
def runStoreA (len cost : Nat) (a : Word) (s : State) : Result :=
  runFixed len cost (fun s => s.store a s.regs.a) s

/-- `A <- MemRead(HL, 1); HL <- wrap16(HL + step)` (R153, R154). -/
def runLoadAStep (step : Word) (s : State) : Result :=
  runFixed 1 2 (fun s => ((s.afterRead s.hl).setReg .a (s.byteAt s.hl)).setHl (s.hl + step)) s

/-- `MemWrite(HL, 1, A); HL <- wrap16(HL + step)` (R155, R156). -/
def runStoreAStep (step : Word) (s : State) : Result :=
  runFixed 1 2 (fun s => (s.store s.hl s.regs.a).setHl (s.hl + step)) s

/-- `LD (BC),A`, 02, R146. -/
def execLdIndBcA (s : State) : Result := runStoreA 1 2 s.regs.bc s

/-- `LD B,n8`, 06, R141. -/
def execLdBN8 (n8 : Byte) (s : State) : Result := runLoadRegImm .b n8 s

/-- `LD A,(BC)`, 0A, R145. -/
def execLdAIndBc (s : State) : Result := runLoadA 1 2 s.regs.bc s

/-- `LD C,n8`, 0E, R141. -/
def execLdCN8 (n8 : Byte) (s : State) : Result := runLoadRegImm .c n8 s

/-- `LD (DE),A`, 12, R146. -/
def execLdIndDeA (s : State) : Result := runStoreA 1 2 s.regs.de s

/-- `LD D,n8`, 16, R141. -/
def execLdDN8 (n8 : Byte) (s : State) : Result := runLoadRegImm .d n8 s

/-- `LD A,(DE)`, 1A, R145. -/
def execLdAIndDe (s : State) : Result := runLoadA 1 2 s.regs.de s

/-- `LD E,n8`, 1E, R141. -/
def execLdEN8 (n8 : Byte) (s : State) : Result := runLoadRegImm .e n8 s

/-- `LD (HL+),A`, 22, R155. -/
def execLdHliA (s : State) : Result := runStoreAStep 1 s

/-- `LD H,n8`, 26, R141. -/
def execLdHN8 (n8 : Byte) (s : State) : Result := runLoadRegImm .h n8 s

/-- `LD A,(HL+)`, 2A, R153. -/
def execLdAHli (s : State) : Result := runLoadAStep 1 s

/-- `LD L,n8`, 2E, R141. -/
def execLdLN8 (n8 : Byte) (s : State) : Result := runLoadRegImm .l n8 s

/-- `LD (HL-),A`, 32, R156. -/
def execLdHldA (s : State) : Result := runStoreAStep (-1) s

/-- `LD (HL),n8`, 36, R144. -/
def execLdIndHlN8 (n8 : Byte) (s : State) : Result := runFixed 2 3 (fun s => s.store s.hl n8) s

/-- `LD A,(HL-)`, 3A, R154. -/
def execLdAHld (s : State) : Result := runLoadAStep (-1) s

/-- `LD A,n8`, 3E, R141. -/
def execLdAN8 (n8 : Byte) (s : State) : Result := runLoadRegImm .a n8 s

/-- `LD B,B`, 40, R140. -/
def execLdBB (s : State) : Result := runLoadRegReg .b .b s

/-- `LD B,C`, 41, R140. -/
def execLdBC (s : State) : Result := runLoadRegReg .b .c s

/-- `LD B,D`, 42, R140. -/
def execLdBD (s : State) : Result := runLoadRegReg .b .d s

/-- `LD B,E`, 43, R140. -/
def execLdBE (s : State) : Result := runLoadRegReg .b .e s

/-- `LD B,H`, 44, R140. -/
def execLdBH (s : State) : Result := runLoadRegReg .b .h s

/-- `LD B,L`, 45, R140. -/
def execLdBL (s : State) : Result := runLoadRegReg .b .l s

/-- `LD B,(HL)`, 46, R142. -/
def execLdBIndHl (s : State) : Result := runLoadRegMem .b s

/-- `LD B,A`, 47, R140. -/
def execLdBA (s : State) : Result := runLoadRegReg .b .a s

/-- `LD C,B`, 48, R140. -/
def execLdCB (s : State) : Result := runLoadRegReg .c .b s

/-- `LD C,C`, 49, R140. -/
def execLdCC (s : State) : Result := runLoadRegReg .c .c s

/-- `LD C,D`, 4A, R140. -/
def execLdCD (s : State) : Result := runLoadRegReg .c .d s

/-- `LD C,E`, 4B, R140. -/
def execLdCE (s : State) : Result := runLoadRegReg .c .e s

/-- `LD C,H`, 4C, R140. -/
def execLdCH (s : State) : Result := runLoadRegReg .c .h s

/-- `LD C,L`, 4D, R140. -/
def execLdCL (s : State) : Result := runLoadRegReg .c .l s

/-- `LD C,(HL)`, 4E, R142. -/
def execLdCIndHl (s : State) : Result := runLoadRegMem .c s

/-- `LD C,A`, 4F, R140. -/
def execLdCA (s : State) : Result := runLoadRegReg .c .a s

/-- `LD D,B`, 50, R140. -/
def execLdDB (s : State) : Result := runLoadRegReg .d .b s

/-- `LD D,C`, 51, R140. -/
def execLdDC (s : State) : Result := runLoadRegReg .d .c s

/-- `LD D,D`, 52, R140. -/
def execLdDD (s : State) : Result := runLoadRegReg .d .d s

/-- `LD D,E`, 53, R140. -/
def execLdDE (s : State) : Result := runLoadRegReg .d .e s

/-- `LD D,H`, 54, R140. -/
def execLdDH (s : State) : Result := runLoadRegReg .d .h s

/-- `LD D,L`, 55, R140. -/
def execLdDL (s : State) : Result := runLoadRegReg .d .l s

/-- `LD D,(HL)`, 56, R142. -/
def execLdDIndHl (s : State) : Result := runLoadRegMem .d s

/-- `LD D,A`, 57, R140. -/
def execLdDA (s : State) : Result := runLoadRegReg .d .a s

/-- `LD E,B`, 58, R140. -/
def execLdEB (s : State) : Result := runLoadRegReg .e .b s

/-- `LD E,C`, 59, R140. -/
def execLdEC (s : State) : Result := runLoadRegReg .e .c s

/-- `LD E,D`, 5A, R140. -/
def execLdED (s : State) : Result := runLoadRegReg .e .d s

/-- `LD E,E`, 5B, R140. -/
def execLdEE (s : State) : Result := runLoadRegReg .e .e s

/-- `LD E,H`, 5C, R140. -/
def execLdEH (s : State) : Result := runLoadRegReg .e .h s

/-- `LD E,L`, 5D, R140. -/
def execLdEL (s : State) : Result := runLoadRegReg .e .l s

/-- `LD E,(HL)`, 5E, R142. -/
def execLdEIndHl (s : State) : Result := runLoadRegMem .e s

/-- `LD E,A`, 5F, R140. -/
def execLdEA (s : State) : Result := runLoadRegReg .e .a s

/-- `LD H,B`, 60, R140. -/
def execLdHB (s : State) : Result := runLoadRegReg .h .b s

/-- `LD H,C`, 61, R140. -/
def execLdHC (s : State) : Result := runLoadRegReg .h .c s

/-- `LD H,D`, 62, R140. -/
def execLdHD (s : State) : Result := runLoadRegReg .h .d s

/-- `LD H,E`, 63, R140. -/
def execLdHE (s : State) : Result := runLoadRegReg .h .e s

/-- `LD H,H`, 64, R140. -/
def execLdHH (s : State) : Result := runLoadRegReg .h .h s

/-- `LD H,L`, 65, R140. -/
def execLdHL (s : State) : Result := runLoadRegReg .h .l s

/-- `LD H,(HL)`, 66, R142. -/
def execLdHIndHl (s : State) : Result := runLoadRegMem .h s

/-- `LD H,A`, 67, R140. -/
def execLdHA (s : State) : Result := runLoadRegReg .h .a s

/-- `LD L,B`, 68, R140. -/
def execLdLB (s : State) : Result := runLoadRegReg .l .b s

/-- `LD L,C`, 69, R140. -/
def execLdLC (s : State) : Result := runLoadRegReg .l .c s

/-- `LD L,D`, 6A, R140. -/
def execLdLD (s : State) : Result := runLoadRegReg .l .d s

/-- `LD L,E`, 6B, R140. -/
def execLdLE (s : State) : Result := runLoadRegReg .l .e s

/-- `LD L,H`, 6C, R140. -/
def execLdLH (s : State) : Result := runLoadRegReg .l .h s

/-- `LD L,L`, 6D, R140. -/
def execLdLL (s : State) : Result := runLoadRegReg .l .l s

/-- `LD L,(HL)`, 6E, R142. -/
def execLdLIndHl (s : State) : Result := runLoadRegMem .l s

/-- `LD L,A`, 6F, R140. -/
def execLdLA (s : State) : Result := runLoadRegReg .l .a s

/-- `LD (HL),B`, 70, R143. -/
def execLdIndHlB (s : State) : Result := runStoreMemReg .b s

/-- `LD (HL),C`, 71, R143. -/
def execLdIndHlC (s : State) : Result := runStoreMemReg .c s

/-- `LD (HL),D`, 72, R143. -/
def execLdIndHlD (s : State) : Result := runStoreMemReg .d s

/-- `LD (HL),E`, 73, R143. -/
def execLdIndHlE (s : State) : Result := runStoreMemReg .e s

/-- `LD (HL),H`, 74, R143. -/
def execLdIndHlH (s : State) : Result := runStoreMemReg .h s

/-- `LD (HL),L`, 75, R143. -/
def execLdIndHlL (s : State) : Result := runStoreMemReg .l s

/-- `LD (HL),A`, 77, R143. -/
def execLdIndHlA (s : State) : Result := runStoreMemReg .a s

/-- `LD A,B`, 78, R140. -/
def execLdAB (s : State) : Result := runLoadRegReg .a .b s

/-- `LD A,C`, 79, R140. -/
def execLdAC (s : State) : Result := runLoadRegReg .a .c s

/-- `LD A,D`, 7A, R140. -/
def execLdAD (s : State) : Result := runLoadRegReg .a .d s

/-- `LD A,E`, 7B, R140. -/
def execLdAE (s : State) : Result := runLoadRegReg .a .e s

/-- `LD A,H`, 7C, R140. -/
def execLdAH (s : State) : Result := runLoadRegReg .a .h s

/-- `LD A,L`, 7D, R140. -/
def execLdAL (s : State) : Result := runLoadRegReg .a .l s

/-- `LD A,(HL)`, 7E, R142. -/
def execLdAIndHl (s : State) : Result := runLoadRegMem .a s

/-- `LD A,A`, 7F, R140. -/
def execLdAA (s : State) : Result := runLoadRegReg .a .a s

/-- `LDH (n8),A`, E0, R150. -/
def execLdhMemA (n8 : Byte) (s : State) : Result := runStoreA 2 3 (highPage n8) s

/-- `LD (C),A`, E2, R152. -/
def execLdHighCA (s : State) : Result := runStoreA 1 2 (highPage s.regs.c) s

/-- `LD (n16),A`, EA, R148. -/
def execLdMemA (n16 : Word) (s : State) : Result := runStoreA 3 4 n16 s

/-- `LDH A,(n8)`, F0, R149. -/
def execLdhAMem (n8 : Byte) (s : State) : Result := runLoadA 2 3 (highPage n8) s

/-- `LD A,(C)`, F2, R151. -/
def execLdAHighC (s : State) : Result := runLoadA 1 2 (highPage s.regs.c) s

/-- `LD A,(n16)`, FA, R147. -/
def execLdAMem (n16 : Word) (s : State) : Result := runLoadA 3 4 n16 s

end Sys2Proof.Machine
end

