-- ==== Sys2Proof/Machine/Rotate.lean ====
section
/-! DEFINITION. The accumulator rotates (R200 to R203) and the prefixed rotates and shifts (R204 to R212): the shared
operations, then one meaning per instruction. -/

namespace Sys2Proof.Machine

/-- A rotate of A, where Z is always 0 (R200 to R203). -/
def runRotA (op : RotOp) (s : State) : Result :=
  runFixed 1 1
    (fun s =>
      (s.setReg .a (rotValue op s.regs.a s.regs.flagC)).putFlags (some false) (some false) (some false)
        (some (rotCarry op s.regs.a)))
    s

/-- `v <- ReadT(); WriteT(r)` with Z from the result, N 0, H 0, C the bit shifted out (R204 to R212). -/
def runRot (op : RotOp) (t : Target) (s : State) : Result :=
  runFixed 2 (targetCost t 2 4)
    (fun s =>
      let v := s.targetValue t
      let r := rotValue op v s.regs.flagC
      ((s.afterTarget t).putTarget t r).putFlags (some (r == 0)) (some false) (some false) (some (rotCarry op v)))
    s

/-- `RLCA`, 07, R200. -/
def execRlca (s : State) : Result := runRotA .rlc s

/-- `RRCA`, 0F, R201. -/
def execRrca (s : State) : Result := runRotA .rrc s

/-- `RLA`, 17, R202. -/
def execRla (s : State) : Result := runRotA .rl s

/-- `RRA`, 1F, R203. -/
def execRra (s : State) : Result := runRotA .rr s

/-- `RLC B`, CB 00, R205. -/
def execRlcB (s : State) : Result := runRot .rlc (.reg .b) s

/-- `RLC C`, CB 01, R205. -/
def execRlcC (s : State) : Result := runRot .rlc (.reg .c) s

/-- `RLC D`, CB 02, R205. -/
def execRlcD (s : State) : Result := runRot .rlc (.reg .d) s

/-- `RLC E`, CB 03, R205. -/
def execRlcE (s : State) : Result := runRot .rlc (.reg .e) s

/-- `RLC H`, CB 04, R205. -/
def execRlcH (s : State) : Result := runRot .rlc (.reg .h) s

/-- `RLC L`, CB 05, R205. -/
def execRlcL (s : State) : Result := runRot .rlc (.reg .l) s

/-- `RLC (HL)`, CB 06, R205. -/
def execRlcIndHl (s : State) : Result := runRot .rlc .atHl s

/-- `RLC A`, CB 07, R205. -/
def execRlcA (s : State) : Result := runRot .rlc (.reg .a) s

/-- `RRC B`, CB 08, R206. -/
def execRrcB (s : State) : Result := runRot .rrc (.reg .b) s

/-- `RRC C`, CB 09, R206. -/
def execRrcC (s : State) : Result := runRot .rrc (.reg .c) s

/-- `RRC D`, CB 0A, R206. -/
def execRrcD (s : State) : Result := runRot .rrc (.reg .d) s

/-- `RRC E`, CB 0B, R206. -/
def execRrcE (s : State) : Result := runRot .rrc (.reg .e) s

/-- `RRC H`, CB 0C, R206. -/
def execRrcH (s : State) : Result := runRot .rrc (.reg .h) s

/-- `RRC L`, CB 0D, R206. -/
def execRrcL (s : State) : Result := runRot .rrc (.reg .l) s

/-- `RRC (HL)`, CB 0E, R206. -/
def execRrcIndHl (s : State) : Result := runRot .rrc .atHl s

/-- `RRC A`, CB 0F, R206. -/
def execRrcA (s : State) : Result := runRot .rrc (.reg .a) s

/-- `RL B`, CB 10, R207. -/
def execRlB (s : State) : Result := runRot .rl (.reg .b) s

/-- `RL C`, CB 11, R207. -/
def execRlC (s : State) : Result := runRot .rl (.reg .c) s

/-- `RL D`, CB 12, R207. -/
def execRlD (s : State) : Result := runRot .rl (.reg .d) s

/-- `RL E`, CB 13, R207. -/
def execRlE (s : State) : Result := runRot .rl (.reg .e) s

/-- `RL H`, CB 14, R207. -/
def execRlH (s : State) : Result := runRot .rl (.reg .h) s

/-- `RL L`, CB 15, R207. -/
def execRlL (s : State) : Result := runRot .rl (.reg .l) s

/-- `RL (HL)`, CB 16, R207. -/
def execRlIndHl (s : State) : Result := runRot .rl .atHl s

/-- `RL A`, CB 17, R207. -/
def execRlA (s : State) : Result := runRot .rl (.reg .a) s

/-- `RR B`, CB 18, R208. -/
def execRrB (s : State) : Result := runRot .rr (.reg .b) s

/-- `RR C`, CB 19, R208. -/
def execRrC (s : State) : Result := runRot .rr (.reg .c) s

/-- `RR D`, CB 1A, R208. -/
def execRrD (s : State) : Result := runRot .rr (.reg .d) s

/-- `RR E`, CB 1B, R208. -/
def execRrE (s : State) : Result := runRot .rr (.reg .e) s

/-- `RR H`, CB 1C, R208. -/
def execRrH (s : State) : Result := runRot .rr (.reg .h) s

/-- `RR L`, CB 1D, R208. -/
def execRrL (s : State) : Result := runRot .rr (.reg .l) s

/-- `RR (HL)`, CB 1E, R208. -/
def execRrIndHl (s : State) : Result := runRot .rr .atHl s

/-- `RR A`, CB 1F, R208. -/
def execRrA (s : State) : Result := runRot .rr (.reg .a) s

/-- `SLA B`, CB 20, R209. -/
def execSlaB (s : State) : Result := runRot .sla (.reg .b) s

/-- `SLA C`, CB 21, R209. -/
def execSlaC (s : State) : Result := runRot .sla (.reg .c) s

/-- `SLA D`, CB 22, R209. -/
def execSlaD (s : State) : Result := runRot .sla (.reg .d) s

/-- `SLA E`, CB 23, R209. -/
def execSlaE (s : State) : Result := runRot .sla (.reg .e) s

/-- `SLA H`, CB 24, R209. -/
def execSlaH (s : State) : Result := runRot .sla (.reg .h) s

/-- `SLA L`, CB 25, R209. -/
def execSlaL (s : State) : Result := runRot .sla (.reg .l) s

/-- `SLA (HL)`, CB 26, R209. -/
def execSlaIndHl (s : State) : Result := runRot .sla .atHl s

/-- `SLA A`, CB 27, R209. -/
def execSlaA (s : State) : Result := runRot .sla (.reg .a) s

/-- `SRA B`, CB 28, R210. -/
def execSraB (s : State) : Result := runRot .sra (.reg .b) s

/-- `SRA C`, CB 29, R210. -/
def execSraC (s : State) : Result := runRot .sra (.reg .c) s

/-- `SRA D`, CB 2A, R210. -/
def execSraD (s : State) : Result := runRot .sra (.reg .d) s

/-- `SRA E`, CB 2B, R210. -/
def execSraE (s : State) : Result := runRot .sra (.reg .e) s

/-- `SRA H`, CB 2C, R210. -/
def execSraH (s : State) : Result := runRot .sra (.reg .h) s

/-- `SRA L`, CB 2D, R210. -/
def execSraL (s : State) : Result := runRot .sra (.reg .l) s

/-- `SRA (HL)`, CB 2E, R210. -/
def execSraIndHl (s : State) : Result := runRot .sra .atHl s

/-- `SRA A`, CB 2F, R210. -/
def execSraA (s : State) : Result := runRot .sra (.reg .a) s

/-- `SWAP B`, CB 30, R211. -/
def execSwapB (s : State) : Result := runRot .swap (.reg .b) s

/-- `SWAP C`, CB 31, R211. -/
def execSwapC (s : State) : Result := runRot .swap (.reg .c) s

/-- `SWAP D`, CB 32, R211. -/
def execSwapD (s : State) : Result := runRot .swap (.reg .d) s

/-- `SWAP E`, CB 33, R211. -/
def execSwapE (s : State) : Result := runRot .swap (.reg .e) s

/-- `SWAP H`, CB 34, R211. -/
def execSwapH (s : State) : Result := runRot .swap (.reg .h) s

/-- `SWAP L`, CB 35, R211. -/
def execSwapL (s : State) : Result := runRot .swap (.reg .l) s

/-- `SWAP (HL)`, CB 36, R211. -/
def execSwapIndHl (s : State) : Result := runRot .swap .atHl s

/-- `SWAP A`, CB 37, R211. -/
def execSwapA (s : State) : Result := runRot .swap (.reg .a) s

/-- `SRL B`, CB 38, R212. -/
def execSrlB (s : State) : Result := runRot .srl (.reg .b) s

/-- `SRL C`, CB 39, R212. -/
def execSrlC (s : State) : Result := runRot .srl (.reg .c) s

/-- `SRL D`, CB 3A, R212. -/
def execSrlD (s : State) : Result := runRot .srl (.reg .d) s

/-- `SRL E`, CB 3B, R212. -/
def execSrlE (s : State) : Result := runRot .srl (.reg .e) s

/-- `SRL H`, CB 3C, R212. -/
def execSrlH (s : State) : Result := runRot .srl (.reg .h) s

/-- `SRL L`, CB 3D, R212. -/
def execSrlL (s : State) : Result := runRot .srl (.reg .l) s

/-- `SRL (HL)`, CB 3E, R212. -/
def execSrlIndHl (s : State) : Result := runRot .srl .atHl s

/-- `SRL A`, CB 3F, R212. -/
def execSrlA (s : State) : Result := runRot .srl (.reg .a) s

end Sys2Proof.Machine
end

