-- ==== Sys2Proof/Machine/PrefixCb.lean ====
section
/-! DEFINITION. The prefix byte's own row (R109, R204): 0xCB with the byte after it is the extended instruction that byte
selects. The decoder gives that instruction itself (R108), so this constructor is never decoded (log 10). -/

namespace Sys2Proof.Machine

/-- The extended instruction of the second byte `x y z` (R108). -/
def runExtended (b1 : Byte) (s : State) : Result :=
  let y := fieldY b1
  let t := targetOf (fieldZ b1)
  match fieldX b1 with
  | 0 => runRot (rotOpOf y) t s
  | 1 => runBit (bitOf y) t s
  | 2 => runRes (bitOf y) t s
  | _ => runSet (bitOf y) t s

/-- `PREFIX CB`, CB, R204. -/
def execPrefixCb (b1 : Byte) (s : State) : Result := runExtended b1 s

end Sys2Proof.Machine
end

