-- ==== Sys2Proof/Machine/System.lean ====
section
/-! DEFINITION. The system instructions and the illegal bytes (R240 to R245). -/

namespace Sys2Proof.Machine

/-- `halted <- 1; if ime = 0: haltBug <- 1` (R241, D8). -/
def State.enterHalt (s : State) : State := { s with halted := true, haltBug := !s.ime || s.haltBug }

/-- `NOP`, 00, R240. -/
def execNop (s : State) : Result := runFixed 1 1 (fun s => s) s

/-- `STOP`, 10, R242: by the machine's `STOP_MODE`. In mode `nop2` the second byte is ignored and the pc advances by 2; in
mode `refuse` the step is refused. -/
def execStop (_n8 : Byte) (s : State) : Result :=
  match s.stopMode with
  | .refuse => .refused (.stopUnmodelled s.pc)
  | .nop2 => runFixed 2 1 (fun s => s) s

/-- `HALT`, 76, R241. -/
def execHalt (s : State) : Result := runFixed 1 1 State.enterHalt s

/-- `ILLEGAL`, D3 DB DD E3 E4 EB EC ED F4 FC FD, R245. -/
def execIllegal (b0 : Byte) (s : State) : Result := .fault (.illegalOpcode s.pc b0)

/-- `DI`, F3, R243. -/
def execDi (s : State) : Result := runFixed 1 1 (fun s => { s with ime := false }) s

/-- `EI`, FB, R244. -/
def execEi (s : State) : Result := runFixed 1 1 (fun s => { s with ime := true }) s

end Sys2Proof.Machine
end

