-- ==== Sys2Proof/Machine/Tick.lean ====
section
/-! DEFINITION. The CPU step (R120) and the machine tick around it (R131). -/

namespace Sys2Proof.Machine

/-- What a result's next state becomes; a fault or a refusal stays. -/
def onNext (r : Result) (f : State → State) : Result :=
  match r with
  | .next s => .next (f s)
  | .fault e => .fault e
  | .refused e => .refused e

/-- Step 2 of the CPU step, for a halted core: it wakes if an enabled interrupt is pending, and the step costs 1 whatever
happens (R122, R130). -/
def State.haltedStep (s : State) : State := { s with halted := s.halted && !s.bus.anyPending }.charge 1

/-- Step 5 of the CPU step: with IME set at the step's entry and still set, the selected interrupt is serviced (R129). -/
def State.checkInterrupts (s : State) (imeAtEntry : Bool) : State :=
  if imeAtEntry && s.ime then
    match s.bus.selectInterrupt with
    | some k => s.serviceInterrupt k
    | none => s
  else s

/-- `CpuStep()` (R120): a halted step, or one instruction fetched and executed; then the interrupt check with the snapshot of
IME taken at entry (R121). -/
def cpuStep (s : State) : Result :=
  if s.halted then .next (s.haltedStep.checkInterrupts s.ime)
  else onNext (exec s.fetch.1 s.fetch.2) fun t => t.checkInterrupts s.ime

/-- The device advances of a tick that began in `s` and whose CPU step ended in `t`: the T-cycles are `T_PER_M` times what the
step added to the cycle counter (R128, R130, R131; log 13). -/
def State.advanceDevices (s t : State) : State :=
  { t with bus := t.bus.advance (Config.tPerM * (t.cycles - s.cycles)) }

/-- `MachineTick()` (R131). A run that has ended answers its end mark again, since no tick takes a step after it (R132, log
12); with no cartridge loaded a step is outside the model (R303, U11). -/
def machineTick (s : State) : Result :=
  match s.stop with
  | some (.fault r) => .fault r
  | some (.refusal r) => .refused r
  | none => if s.bus.cart.loaded then onNext (cpuStep s) s.advanceDevices else .refused .noCartridge

end Sys2Proof.Machine
end

