-- ==== Sys2Proof/Machine/Environment.lean ====
section
/-! DEFINITION. The machine built with any parameters (R7), and what the environment and the host may do to CORE between two
machine ticks (R53, R64, R75, R256, R300, R303), with a run in which they do. No step takes one of these actions by itself
(log 7). -/

namespace Sys2Proof.Machine

/-! ### The unchecked bus accesses (R53) -/

/-- `ReadAny(a)`: as a CPU read, but 0xFF47 and the external registers give the stored byte (R53, R59). -/
def Bus.readAny (b : Bus) (a : Word) : Byte :=
  if a.toNat = 0xFF47 ∨ isExternal a.toNat = true then Memory.read b.mem a.toNat else b.read a

/-- `WriteAny(a, v)`: as a CPU write, but 0xFF44 is stored and not logged (R53, R58). -/
def Bus.writeAny (b : Bus) (a : Word) (v : Byte) : Bus :=
  if a.toNat = 0xFF44 ∧ ¬(b.boot.active = true ∧ a = b.boot.offAddr) then { b with mem := Memory.write b.mem 0xFF44 v }
  else b.write a v

/-! ### Bus calls of the host, at any address (R64, R250) -/

/-- The run ended by `m`, unless it has ended already: an end mark is never replaced (R11, R40, log 19). -/
def State.endRun (s : State) (m : StopMark) : State := { s with stop := s.stop.or (some m) }

/-- What a bus call at `addr` leaves: outside 0x0000–0xFFFF the call has no effect but the fatal fault, which ends the run (R64,
R250). -/
def State.busCall (s : State) (addr : Nat) (effect : Word → State) : State :=
  if 0xFFFF < addr then s.endRun (.fault (.addressOutOfRange addr)) else effect (BitVec.ofNat 16 addr)

/-- What a reading bus call at `addr` answers. -/
def busAnswer (addr : Nat) (value : Word → Byte) : Except Fault Byte :=
  if 0xFFFF < addr then .error (.addressOutOfRange addr) else .ok (value (BitVec.ofNat 16 addr))

/-- A call of the CPU's read contract, with the read's effects (R52, R68, R256). -/
def State.hostRead (s : State) (addr : Nat) : Except Fault Byte × State :=
  (busAnswer addr s.byteAt, s.busCall addr s.afterRead)

/-- A call of the CPU's write contract (R54). -/
def State.hostWrite (s : State) (addr : Nat) (v : Byte) : State := s.busCall addr fun a => s.store a v

/-- A call of `ReadAny`, which has no effect (R53). -/
def State.hostReadAny (s : State) (addr : Nat) : Except Fault Byte × State :=
  (busAnswer addr s.bus.readAny, s.busCall addr fun _ => s)

/-- A call of `WriteAny` (R53). -/
def State.hostWriteAny (s : State) (addr : Nat) (v : Byte) : State :=
  s.busCall addr fun a => { s with bus := s.bus.writeAny a v }

/-! ### Building, reset and load -/

/-- The parameters a machine is built with, beside the numbers of Config (R7). -/
structure Parameters where
  /-- `BOOT_ROM`: the 256 bytes of the overlay image, or none (D12). -/
  bootRom : Option (List Byte)
  /-- `BOOT_OFF_ADDR` (D12). -/
  bootOffAddr : Word
  /-- `STOP_MODE` (D7). -/
  stopMode : StopMode
deriving DecidableEq, Repr

/-- The values that R7 fixes for the hardware. -/
def Parameters.standard : Parameters := { bootRom := none, bootOffAddr := 0x01FE, stopMode := .refuse }

/-- The machine right after reset, built with the parameters given (R7, R39, R300). -/
def State.built (p : Parameters) : State :=
  { State.reset with
    bus :=
      { Bus.reset with
        boot :=
          { image := p.bootRom.map fun bytes => Memory.ofBytes 0 (bytes.take 0x100)
            offAddr := p.bootOffAddr
            active := p.bootRom.isSome } }
    stopMode := p.stopMode }

/-- `Reset()` (R300): everything but the cartridge's images, kind and counts and the machine's parameters. The model's counter
of draws goes on, so that free values after a reset are other ones than those before it (R57, R286, log 6). -/
def State.softReset (s : State) : State :=
  { State.reset with
    bus :=
      { Bus.reset with
        cart := s.bus.cart.resetBanks
        boot := { s.bus.boot with active := s.bus.boot.image.isSome }
        draws := s.bus.draws }
    stopMode := s.stopMode }

/-- `loadGame(rom)` with the saved RAM image, if any: a failed load changes nothing, a successful one replaces the cartridge
and nothing else (R80, R303). -/
def State.loadGame (s : State) (rom : List Byte) (saved : Option (List Byte)) : Except LoadFailure State :=
  match loadCartridge rom saved with
  | .ok cart => .ok { s with bus := { s.bus with cart := cart } }
  | .error e => .error e

/-! ### The actions of R256 -/

/-- One action of the environment between two ticks (R256). -/
inductive EnvAction where
  /-- The PPU, the serial port or the joypad requests its interrupt (R255); any kind. -/
  | request (k : IrqKind)
  /-- A collaborator reads the bus by the CPU's contract, as the PPU reads VRAM (R52, R256); outside the address space the call
  ends the run (R64), as in the three below. -/
  | read (addr : Nat)
  /-- The host writes the bus by the CPU's contract (R54, R64). -/
  | write (addr : Nat) (v : Byte)
  /-- A collaborator reads the bus unchecked (R53). -/
  | readAny (addr : Nat)
  /-- A collaborator writes the bus unchecked, as the PPU stores 0xFF44 (R53, R58). -/
  | writeAny (addr : Nat) (v : Byte)
  /-- The host writes a register through its accessor (R256). -/
  | setReg (r : Reg8) (v : Byte)
  /-- The host writes F, masked to 0xF0 (R21, R256). -/
  | setF (v : Byte)
  /-- The host writes `pc` (R302). -/
  | setPc (v : Word)
  /-- The host writes `sp` (R302). -/
  | setSp (v : Word)
  /-- The length unit's or the envelope's volume input (R286). -/
  | setVolume (v : BitVec 4)
  /-- The host resets the machine (R300). -/
  | reset
  /-- The host loads a cartridge (R80). -/
  | load (rom : List Byte) (saved : Option (List Byte))
deriving DecidableEq, Repr

/-- The state after an action. -/
def EnvAction.apply (e : EnvAction) (s : State) : State :=
  match e with
  | .request k => { s with bus := s.bus.requestInterrupt k }
  | .read addr => (s.hostRead addr).2
  | .write addr v => s.hostWrite addr v
  | .readAny addr => (s.hostReadAny addr).2
  | .writeAny addr v => s.hostWriteAny addr v
  | .setReg r v => s.setReg r v
  | .setF v => { s with regs := s.regs.writeF v }
  | .setPc v => { s with pc := v }
  | .setSp v => { s with sp := v }
  | .setVolume v => { s with bus := { s.bus with ch1 := { s.bus.ch1 with volume := v } } }
  | .reset => s.softReset
  | .load rom saved =>
    match s.loadGame rom saved with
    | .ok s' => s'
    | .error _ => s

/-- One call of the host's `step()`: a machine tick, with the end mark recorded when it faults or is refused; the step itself
then has no other effect (R132, R250). -/
def State.hostTick (s : State) : State :=
  match machineTick s with
  | .next t => t
  | .fault r => { s with stop := some (.fault r) }
  | .refused r => { s with stop := some (.refusal r) }

/-- A run in which the environment acts before every tick: one list of actions a tick (R75, R132). -/
def runWith : List (List EnvAction) → State → Result
  | [], s => .next s
  | actions :: rest, s =>
    match machineTick (actions.foldl (fun s e => e.apply s) s) with
    | .next t => runWith rest t
    | .fault r => .fault r
    | .refused r => .refused r

/-! ### Placing a program byte from outside the machine (log 8) -/

/-- A 32 KiB cartridge without controller and without RAM, every byte 0x00: what header bytes 0x00 at 0x0147 to 0x0149 give
(R80). -/
def Cartridge.blank : Cartridge :=
  { Cartridge.absent with loaded := true, romLength := 0x8000, romBankCount := 2 }

/-- The byte behind an address replaced from outside, wherever it is stored: overlay image, cartridge image or bus storage.
An address with no such storage (a device register, the unusable region, an unreachable RAM window) is left alone. -/
def Bus.place (b : Bus) (a : Word) (v : Byte) : Bus :=
  let n := a.toNat
  if b.boot.active ∧ n ≤ 0x00FF then
    { b with boot := { b.boot with image := some (Memory.write (b.boot.image.getD []) n v) } }
  else if n ≤ 0x7FFF then { b with cart := { b.cart with rom := Memory.write b.cart.rom (b.cart.romIndex n) v } }
  else if n ≤ 0x9FFF then { b with mem := Memory.write b.mem n v }
  else if n ≤ 0xBFFF then { b with cart := b.cart.writeRam n v }
  else if n ≤ 0xDFFF then { b with mem := Memory.write b.mem n v }
  else if n ≤ 0xFDFF then { b with mem := Memory.write b.mem (n - 0x2000) v }
  else if n ≤ 0xFE9F then { b with mem := Memory.write b.mem n v }
  else if n ≤ 0xFEFF then b
  else if (0xFF04 ≤ n ∧ n ≤ 0xFF07) ∨ (0xFF10 ≤ n ∧ n ≤ 0xFF14) ∨ isExternal n = true ∨ n = 0xFF47 then b
  else { b with mem := Memory.write b.mem n v }

/-- Bytes placed at consecutive addresses. -/
def Bus.placeAll (b : Bus) (a : Word) (bytes : List Byte) : Bus :=
  match bytes with
  | [] => b
  | v :: rest => Bus.placeAll (b.place a v) (a + 1) rest

end Sys2Proof.Machine
end

