-- ==== Sys2Proof/Machine/Step.lean ====
section
/-! DEFINITION. One step of CORE, a machine tick (R131, log 14), and the host's way to put an instruction where the step
fetches. -/

namespace Sys2Proof.Machine

/-- One machine tick (R131). -/
def step (s : State) : Host.Outcome State Fault Refusal := machineTick s

/-- The state with an instruction's bytes, numbered as the opcode table numbers them (log 9), stored at `pc`, and all that the
next step needs to fetch them: a loaded cartridge, a core that is not halted and a run that has not ended (log 8). -/
def State.withFetchWord (s : State) (nbits w : Nat) : State :=
  let cart := if s.bus.cart.loaded then s.bus.cart else Cartridge.blank
  { s with
    bus := { s.bus with cart := cart }.placeAll s.pc (tableBytes nbits w)
    halted := false
    stop := none }

end Sys2Proof.Machine
end

