-- ==== Sys2Proof/Safety.lean ====
section
/-! DEFINITION. The terms the claims use: the codes of the encodings, the well-formed states (an invariant of every step),
what a store can reach and which bytes an instruction stores to, what retiring an instruction does, the results of the
rotates and of DAA as numbers, and what a safe run is. -/

namespace Sys2Proof

/-! ### The codes of the encodings (R101, R103 to R105), as numbers -/

/-- The code of a register in the field `r` (R103). -/
def Reg8.code (r : Reg8) : Nat :=
  match r with
  | .b => 0 | .c => 1 | .d => 2 | .e => 3 | .h => 4 | .l => 5 | .a => 7

/-- The code of an operand in the field `r` (R103): 6 is the byte at HL. -/
def Target.code (t : Target) : Nat :=
  match t with
  | .reg r => r.code
  | .atHl => 6

/-- The code in the field `rp` (R103). -/
def Pair.code (p : Pair) : Nat :=
  match p with
  | .bc => 0 | .de => 1 | .hl => 2 | .sp => 3

/-- The code in the field `rp2` (R103). -/
def StackPair.code (p : StackPair) : Nat :=
  match p with
  | .bc => 0 | .de => 1 | .hl => 2 | .af => 3

/-- The condition code (R104). -/
def Cond.code (cc : Cond) : Nat :=
  match cc with
  | .nz => 0 | .z => 1 | .nc => 2 | .c => 3

/-- The operation code of the 8-bit ALU group (R105). -/
def AluOp.code (op : AluOp) : Nat :=
  match op with
  | .add => 0 | .adc => 1 | .sub => 2 | .sbc => 3 | .and => 4 | .xor => 5 | .or => 6 | .cp => 7

/-- The operation code of the rotates and shifts (R105). -/
def RotOp.code (op : RotOp) : Nat :=
  match op with
  | .rlc => 0 | .rrc => 1 | .rl => 2 | .rr => 3 | .sla => 4 | .sra => 5 | .swap => 6 | .srl => 7

/-- The opcode byte with the fields `x`, `y` and `z` (R101). -/
def opByte (x y z : Nat) : Byte := BitVec.ofNat 8 (64 * x + 8 * y + z)

end Sys2Proof

namespace Sys2Proof.Machine

/-! ### Well-formed states -/

/-- The keys of the bus-owned storage: the arrays of R34, less the I/O bytes that a device owns (R57). -/
def ownsKey (n : Nat) : Prop :=
  (0x8000 ≤ n ∧ n ≤ 0x9FFF) ∨ (0xC000 ≤ n ∧ n ≤ 0xDFFF) ∨ (0xFE00 ≤ n ∧ n ≤ 0xFE9F) ∨
    (0xFF00 ≤ n ∧ n ≤ 0xFFFF ∧ ¬(0xFF04 ≤ n ∧ n ≤ 0xFF07) ∧ ¬(0xFF10 ≤ n ∧ n ≤ 0xFF14) ∧ isExternal n = false)

/-- A canonical list whose keys all satisfy `p`. -/
structure Memory.Within (p : Nat → Prop) (m : Memory) : Prop where
  wf : Memory.wf m
  keys : ∀ cell ∈ m, p cell.1

/-- The cartridge: its images in canonical form and within their size; with a cartridge loaded, the selected ROM bank is
never 0 and inside the image, so the index of R83 is inside it (R83, R92); the registers within their ranges. -/
structure Cartridge.Inv (c : Cartridge) : Prop where
  rom : Memory.Within (· < c.romLength) c.rom
  ram : Memory.Within (· < c.ramBankCount * ramBankSize) c.ram
  banks : c.loaded = true → 2 ≤ c.romBankCount ∧ c.romBankCount * romBankSize ≤ c.romLength
  bank : c.loaded = true → 1 ≤ c.romBank ∧ c.romBank < c.romBankCount
  ramBank : c.ramBank ≤ 3
  low5 : c.bankLow5 ≠ 0
  noController : c.kind = .none → c.romBank = 1 ∧ c.ramEnabled = false

/-- The timer: a pending reload has the whole delay before it between two ticks, because every tick passes at least four
T-cycles (R263). -/
structure Timer.Inv (t : Timer) : Prop where
  countdown : t.reloadPending = true → t.reloadCountdown = Config.timaReloadDelay

/-- Channel 1: the frequency and its shadow in 0–2048 (R6, R37), the duty timer not below 0 and the sweep accumulator not
above the divider between two ticks, an enabled sweep's period timer in 1–8, and the unused bits of the stored registers
zero (R277, R278, R280). -/
structure Channel1.Inv (c : Channel1) : Prop where
  freq : c.freq ≤ 2048
  shadow : c.shadow ≤ 2048
  timer : 0 ≤ c.timer
  sweepAcc : c.sweepAcc ≤ Config.sweepDivider
  sweepTimer : c.sweepEnabled = true → 1 ≤ c.sweepTimer ∧ c.sweepTimer ≤ 8
  nr10 : c.nr10 &&& 0x80 = 0
  nr11 : c.nr11 &&& 0x3F = 0
  nr14 : c.nr14 &&& 0xBF = 0

/-- The boot overlay: an image lists addresses 0x00–0xFF only, and an active overlay has one (R39, R55). -/
structure BootOverlay.Inv (o : BootOverlay) : Prop where
  image : ∀ m, o.image = some m → Memory.Within (· ≤ 0x00FF) m
  present : o.active = true → o.image.isSome = true

/-- What the bus reaches. -/
structure Bus.Inv (b : Bus) : Prop where
  mem : Memory.Within ownsKey b.mem
  timer : b.timer.Inv
  ch1 : b.ch1.Inv
  cart : b.cart.Inv
  boot : b.boot.Inv

/-- The well-formed states: the low four bits of F are zero (R21), and what the bus reaches is well-formed. -/
structure State.Inv (s : State) : Prop where
  lowF : s.regs.f &&& 0x0F = 0
  bus : s.bus.Inv

/-! ### Terms of the frames -/

/-- A bus address with the echo of WRAM folded onto WRAM (R60). -/
def echoFold (n : Nat) : Nat := if 0xE000 ≤ n ∧ n ≤ 0xFDFF then n - 0x2000 else n

/-- Whether a CPU store to `a` may change what a CPU read of `a'` returns: the exit register of an active boot overlay
uncovers 0x0000–0x00FF (R56); a controller register may switch the two banked windows (R83, R84); any other store reaches
its own byte, through either alias (R60). -/
def Bus.storeReaches (b : Bus) (a a' : Word) : Prop :=
  if b.boot.active = true ∧ a = b.boot.offAddr then a'.toNat ≤ 0x00FF
  else if a.toNat ≤ 0x7FFF then
    (0x4000 ≤ a'.toNat ∧ a'.toNat ≤ 0x7FFF) ∨ (0xA000 ≤ a'.toNat ∧ a'.toNat ≤ 0xBFFF)
  else echoFold a'.toNat = echoFold a.toNat

/-- The addresses that are plain bus storage for the CPU, read and written alike: VRAM, WRAM and its echo, OAM, HRAM with IE,
and the I/O bytes no device owns but 0xFF44 and 0xFF47 (R51, R57). -/
def isPlain (n : Nat) : Prop :=
  (0x8000 ≤ n ∧ n ≤ 0x9FFF) ∨ (0xC000 ≤ n ∧ n ≤ 0xFE9F) ∨
    (0xFF00 ≤ n ∧ ¬(0xFF04 ≤ n ∧ n ≤ 0xFF07) ∧ ¬(0xFF10 ≤ n ∧ n ≤ 0xFF14) ∧ isExternal n = false ∧ n ≠ 0xFF44 ∧ n ≠ 0xFF47)

/-- An instruction that does not write `pc` retired with no other effect: the pc advanced by its length, or kept when a halt
bug was pending, the halt bug consumed, its cost charged (R124, R127, R130). Every statement about such an instruction
gives its next state as this one with the fields that the instruction writes replaced. -/
def State.retired (s : State) (len cost : Nat) : State :=
  { s with
    pc := if s.haltBug then s.pc else s.pc + BitVec.ofNat 16 len
    haltBug := false
    cycles := s.cycles + cost }

/-- An instruction that writes `pc` retired with no other effect (R124, R127, R130). -/
def State.jumped (s : State) (target : Word) (cost : Nat) : State :=
  { s with pc := target, haltBug := false, cycles := s.cycles + cost }

/-- F as a number with the four flags at bits 7 to 4 and zero below (R21, R24). -/
def flagByte (z n h c : Bool) : Byte := BitVec.ofNat 8 (128 * z.toNat + 64 * n.toNat + 32 * h.toNat + 16 * c.toNat)

/-- The state answered is the next one, and it is `t`; and every byte that a store of one byte to `a` does not reach reads in
it as it read in the bus `b`. -/
def StoresOneByte (r : Result) (t : State) (b : Bus) (a : Word) : Prop :=
  r = .next t ∧ ∀ a', ¬b.storeReaches a a' → t.byteAt a' = b.read a'

/-- The state answered is the next one, and it is `t`; and every byte that neither of two one-byte stores reaches, to `a` and
then to `a'`, reads in it as it read in the bus `b`. The second store goes to the bus that the first one, of `v`, left. -/
def StoresTwoBytes (r : Result) (t : State) (b : Bus) (a : Word) (v : Byte) (a' : Word) : Prop :=
  r = .next t ∧
    ∀ a'', ¬b.storeReaches a a'' → ¬(b.write a v).storeReaches a' a'' → t.byteAt a'' = b.read a''

/-! ### What an instruction stores to -/

/-- The bytes an instruction stores to: none, one, or two in this order. Of the first of two the value matters too, because
it may be what ends the boot overlay or selects a bank before the second. -/
inductive StoredBytes where
  | none
  | one (a : Word)
  | two (a : Word) (v : Byte) (a' : Word)
deriving DecidableEq, Repr

/-- The two bytes a push of `v` stores: the high byte below `sp`, the low byte below that (R166). -/
def State.pushed (s : State) (v : Word) : StoredBytes := .two (s.sp - 1) (highByte v) (s.sp - 2)

/-- The bytes that an instruction stores to from a state, by the address its rule gives: the byte at HL, BC or DE, an
immediate address, an address of the high page, or the stack's two bytes. Every other instruction stores nothing. -/
def storesOf (i : Instr) (s : State) : StoredBytes :=
  match i with
  | .ldIndHlB | .ldIndHlC | .ldIndHlD | .ldIndHlE | .ldIndHlH | .ldIndHlL | .ldIndHlA => .one s.hl
  | .ldIndHlN8 _ | .ldHliA | .ldHldA => .one s.hl
  | .incIndHl | .decIndHl | .rlcIndHl | .rrcIndHl | .rlIndHl | .rrIndHl | .slaIndHl | .sraIndHl | .swapIndHl
  | .srlIndHl | .res0IndHl | .res1IndHl | .res2IndHl | .res3IndHl | .res4IndHl | .res5IndHl | .res6IndHl
  | .res7IndHl | .set0IndHl | .set1IndHl | .set2IndHl | .set3IndHl | .set4IndHl | .set5IndHl | .set6IndHl
  | .set7IndHl  => .one s.hl
  | .ldIndBcA => .one s.regs.bc
  | .ldIndDeA => .one s.regs.de
  | .ldMemA n16 => .one n16
  | .ldhMemA n8 => .one (highPage n8)
  | .ldHighCA => .one (highPage s.regs.c)
  | .ldMemSp n16 => .two n16 (lowByte s.sp) (n16 + 1)
  | .pushBc => s.pushed s.regs.bc
  | .pushDe => s.pushed s.regs.de
  | .pushHl => s.pushed s.regs.hl
  | .pushAf => s.pushed s.regs.af
  | .callN16 _ => s.pushed (s.pc + 3)
  | .callNzN16 _ => if s.holds .nz then s.pushed (s.pc + 3) else .none
  | .callZN16 _ => if s.holds .z then s.pushed (s.pc + 3) else .none
  | .callNcN16 _ => if s.holds .nc then s.pushed (s.pc + 3) else .none
  | .callCN16 _ => if s.holds .c then s.pushed (s.pc + 3) else .none
  | .rst00 | .rst08 | .rst10 | .rst18 | .rst20 | .rst28 | .rst30 | .rst38 => s.pushed (s.pc + 1)
  | .prefixCb b1 => if fieldX b1 ≠ 1 ∧ fieldZ b1 = 6 then .one s.hl else .none
  | _ => .none

/-- Whether the stores may change what a CPU read of `a'` returns, from the bus `b`. -/
def StoredBytes.reach (w : StoredBytes) (b : Bus) (a' : Word) : Prop :=
  match w with
  | .none => False
  | .one a => b.storeReaches a a'
  | .two a v a2 => b.storeReaches a a' ∨ (b.write a v).storeReaches a2 a'

/-! ### What an instruction writes to `pc` itself -/

/-- Whether an instruction writes `pc` itself from a state: a jump, call, return or restart, and a conditional one whose
condition holds (R124, R125). -/
def writesPc (i : Instr) (s : State) : Bool :=
  match i with
  | .jpN16 _ | .jpHl | .jrE8 _ | .callN16 _ | .ret | .reti => true
  | .rst00 | .rst08 | .rst10 | .rst18 | .rst20 | .rst28 | .rst30 | .rst38 => true
  | .jrNzE8 _ | .jpNzN16 _ | .callNzN16 _ | .retNz => !s.regs.flagZ
  | .jrZE8 _ | .jpZN16 _ | .callZN16 _ | .retZ => s.regs.flagZ
  | .jrNcE8 _ | .jpNcN16 _ | .callNcN16 _ | .retNc => !s.regs.flagC
  | .jrCE8 _ | .jpCN16 _ | .callCN16 _ | .retC => s.regs.flagC
  | _ => false

/-! ### Results as numbers -/

/-- The result of a rotate or shift of `v` with the carry `c`, as a number (R205 to R212). -/
def rotNat (op : RotOp) (v c : Nat) : Nat :=
  match op with
  | .rlc => 2 * (v % 128) + v / 128
  | .rrc => v / 2 + 128 * (v % 2)
  | .rl => 2 * (v % 128) + c
  | .rr => v / 2 + 128 * c
  | .sla => 2 * (v % 128)
  | .sra => v / 2 + 128 * (v / 128)
  | .swap => 16 * (v % 16) + v / 16
  | .srl => v / 2

/-- The carry of a rotate or shift of `v`: the bit shifted out, 0 for SWAP (R205 to R212). -/
def rotOut (op : RotOp) (v : Nat) : Bool :=
  match op with
  | .rlc | .rl | .sla => decide (128 ≤ v)
  | .rrc | .rr | .sra | .srl => decide (v % 2 = 1)
  | .swap => false

/-- The adjustment DAA adds or subtracts, as a number (R183). -/
def daaNat (a : Nat) (n h c : Bool) : Nat :=
  (if h = true ∨ (n = false ∧ 9 < a % 16) then 6 else 0) + (if c = true ∨ (n = false ∧ 0x99 < a) then 0x60 else 0)

/-- The target of a relative jump, as a number: `pc + 2` plus the signed displacement, modulo 65536 (R8, R223). -/
def relativeNat (pc : Word) (e8 : Byte) : Nat :=
  (pc.toNat + 2 + e8.toNat + if 128 ≤ e8.toNat then 0xFF00 else 0) % 65536

/-! ### Runs -/

/-- A state from which a step is inside the model: a cartridge is loaded and the run has not ended (R132, R303). -/
def State.canStep (s : State) : Prop := s.stop = none ∧ s.bus.cart.loaded = true

/-- A safe run: `n` ticks, none of which faults or is refused. -/
def SafeFor (n : Nat) (s : State) : Prop := ∃ t, Sys2Proof.core.run n s = .next t

end Sys2Proof.Machine
end

