-- ==== Sys2Proof/Certificates/Slice0/Obligations.lean ====
section
/-! DEFINITION. The statements for the provers, one `Prop` each, with the rule of the spec that each formalises. A statement
about an instruction gives its whole next state: what is not replaced in `State.retired` or `State.jumped` is as before,
memory included. A form that stores gives the frame of memory too, byte by byte, as the CPU reads it. An `encode` clause
gives the instruction's bytes by the fields of R101. -/

section

open Sys2Proof Sys2Proof.Machine

/-! ### Reset -/

/-- R300, R20, R27 to R37, R39, R301, R303, R7: what reset leaves. The registers, the control state, all of the bus storage, the
whole timer, every field of channel 1 but its volume input, the log and the end mark are clear in the state after reset, in
a machine built with any parameters, and after a soft reset; a soft reset keeps the cartridge's images, kind, counts and
flags and the parameters, resets the bank state, and makes the overlay active again if there is one. The values that the
spec marks as its own choice (D11: the halt bug, the cycle counter, the timer and channel 1, the bank state; D12: the
overlay; D7: STOP_MODE) are the spec's; that the state after reset has no cartridge (log 8), the volume's value (log 5)
and the counter of draws that a soft reset keeps (log 6) are the model's choices. -/
def Obligations.ResetClearsTheMachine : Prop :=
  let cleared := fun (t : State) =>
    (∀ r, t.reg r = 0x00) ∧ t.regs.readF = 0x00 ∧ t.pc = 0x0000 ∧ t.sp = 0x0000 ∧ t.ime = false ∧ t.halted = false ∧
      t.haltBug = false ∧ t.cycles = 0 ∧ (∀ n, Memory.read t.bus.mem n = 0x00) ∧
      (∀ a : Word,
        (0x8000 ≤ a.toNat ∧ a.toNat ≤ 0x9FFF) ∨ (0xC000 ≤ a.toNat ∧ a.toNat ≤ 0xFEFF) ∨ 0xFF80 ≤ a.toNat →
          t.byteAt a = 0x00) ∧
      t.bus.ie = 0x00 ∧ t.bus.iflags = 0x00 ∧ t.byteAt 0xFF04 = 0x00 ∧ t.byteAt 0xFF07 = 0xF8 ∧
      t.bus.timer =
        { div := 0, tima := 0x00, tma := 0x00, tac := 0, acc := 0, reloadPending := false, reloadCountdown := 0 } ∧
      (∀ v : BitVec 4,
        { t.bus.ch1 with volume := v } =
          { duty := 0, dutyPos := 0, timer := 0, enabled := false, out := false, freq := 0, nr10 := 0x00, nr11 := 0x00
            nr12 := 0x00, nr14 := 0x00, shadow := 0, sweepTimer := 0, period := 0, negate := false, shift := 0
            sweepEnabled := false, calcLatch := false, sweepAcc := 0, volume := v }) ∧
      t.bus.ch1.isEnabled = false ∧ t.bus.log = [] ∧ t.stop = none
  (State.reset = State.built { bootRom := none, bootOffAddr := 0x01FE, stopMode := .refuse } ∧
      State.reset.bus.cart.loaded = false) ∧
  (∀ p : Parameters,
      cleared (State.built p) ∧ (State.built p).stopMode = p.stopMode ∧
        (State.built p).bus.boot.offAddr = p.bootOffAddr ∧ (State.built p).bus.boot.active = p.bootRom.isSome ∧
        ∀ bytes, p.bootRom = some bytes → ∀ n, n ≤ 0x00FF → (State.built p).bus.boot.byteAt n = bytes.getD n 0x00) ∧
  (∀ s : State,
      cleared s.softReset ∧
        s.softReset.bus.cart =
          { s.bus.cart with
            ramEnabled := false, bankLow5 := 1, bankHigh2 := 0, mode := false, romBank := 1, ramBank := 0 } ∧
        s.softReset.bus.boot = { s.bus.boot with active := s.bus.boot.image.isSome } ∧
        s.softReset.stopMode = s.stopMode ∧ s.softReset.bus.draws = s.bus.draws)

/-- The state after reset is well-formed, in a machine built with any parameters (R7, R300). -/
def Obligations.ResetIsWellFormed : Prop := State.reset.Inv ∧ ∀ p : Parameters, (State.built p).Inv

/-! ### Invariants -/

/-- Every step from a well-formed state gives a well-formed state: F's low bits stay zero (R21), memory keeps its canonical
form and the keys the bus owns, the selected ROM bank stays 1 or more and below the bank count (R92), so the ROM index
of R83 stays inside the image, and the devices' fields stay in their ranges. The reduction of R92 is the spec's own choice
(D17). -/
def Obligations.StepKeepsWellFormed : Prop := ∀ s t : State, s.Inv → step s = .next t → t.Inv

/-- Every action of the environment (R256) keeps a well-formed state well-formed, resets, loads and bus calls at any address
included. -/
def Obligations.EnvironmentKeepsWellFormed : Prop := ∀ (e : EnvAction) (s : State), s.Inv → (e.apply s).Inv

/-- R38, R54, R56, R97: no step changes the ROM image, the cartridge's kind, its counts or its flags, the overlay image or
the parameters, and no step makes an inactive overlay active. The overlay's parameters are the spec's own choice (D12). -/
def Obligations.StepKeepsImagesAndParameters : Prop :=
  ∀ s t : State, step s = .next t →
    t.bus.cart.rom = s.bus.cart.rom ∧ t.bus.cart.kind = s.bus.cart.kind ∧
      t.bus.cart.romBankCount = s.bus.cart.romBankCount ∧ t.bus.cart.ramBankCount = s.bus.cart.ramBankCount ∧
      t.bus.cart.romLength = s.bus.cart.romLength ∧ t.bus.cart.supportsCgb = s.bus.cart.supportsCgb ∧
      t.bus.cart.requiresCgb = s.bus.cart.requiresCgb ∧ t.bus.cart.loaded = s.bus.cart.loaded ∧ t.bus.boot.image = s.bus.boot.image ∧
      t.bus.boot.offAddr = s.bus.boot.offAddr ∧ (t.bus.boot.active = true → s.bus.boot.active = true) ∧
      t.stopMode = s.stopMode ∧ t.stop = none

/-- R29 to R31, R28: which instructions write the control state. IME changes only by DI, EI and RETI, the halted state only
by HALT, the halt bug is pending after an instruction only when it is a HALT executed with IME clear, and every
instruction charges 1 to 6 cycles. -/
def Obligations.ControlStateFrame : Prop :=
  ∀ (i : Instr) (s t : State), exec i s = .next t →
    (t.ime ≠ s.ime → i = .di ∨ i = .ei ∨ i = .reti) ∧ (t.halted ≠ s.halted → i = .halt) ∧
      (t.haltBug = true → i = .halt ∧ s.ime = false) ∧ s.cycles + 1 ≤ t.cycles ∧ t.cycles ≤ s.cycles + 6 ∧
      t.stopMode = s.stopMode ∧ t.stop = s.stop

/-- The frame of memory, for every instruction (R54, R68): a byte that the instruction's stores do not reach reads after it
as before it, except an external device's register, whose next read is another free draw (R57, log 3). -/
def Obligations.OnlyStoredBytesChange : Prop :=
  ∀ (i : Instr) (s t : State), exec i s = .next t →
    ∀ a : Word, isExternal a.toNat = false → ¬(storesOf i s).reach s.bus a → t.byteAt a = s.byteAt a

/-! ### Decoding -/

/-- Every well-formed instruction, with every value of its operands, decodes from its encoding, whatever bytes follow it. -/
def Obligations.DecodeOfEncode : Prop :=
  ∀ (i : Instr) (rest : List Byte), i.wellFormed = true → decode (encode i ++ rest) = .ok (i, rest)

/-- Any three bytes begin with exactly one well-formed instruction, and its encoding is those bytes of its length (R109,
R113): the decoder drops no bit and is total, and no two instructions begin the same bytes. -/
def Obligations.EncodeOfDecode : Prop :=
  ∀ b0 b1 b2 : Byte,
    ((decodeBytes b0 b1 b2).wellFormed = true ∧
      encode (decodeBytes b0 b1 b2) = [b0, b1, b2].take (instrLength b0) ∧ 1 ≤ instrLength b0 ∧ instrLength b0 ≤ 3) ∧
      ∀ i : Instr, i.wellFormed = true → encode i <+: [b0, b1, b2] → i = decodeBytes b0 b1 b2

/-- R107, R108, R110: words written out from the opcode maps. -/
def Obligations.WrittenOutWordsDecode : Prop :=
  decode [0x48] = .ok (.ldCB, []) ∧ decode [0x3E, 0x5C] = .ok (.ldAN8 0x5C, []) ∧
    decode [0x21, 0x34, 0x12] = .ok (.ldHlN16 0x1234, []) ∧ decode [0x08, 0x00, 0xC1] = .ok (.ldMemSp 0xC100, []) ∧
    decode [0xC6, 0xC6] = .ok (.addAN8 0xC6, []) ∧ decode [0x9C] = .ok (.sbcAH, []) ∧
    decode [0x76] = .ok (.halt, []) ∧ decode [0x20, 0xFC] = .ok (.jrNzE8 0xFC, []) ∧
    decode [0xCD, 0x00, 0x03] = .ok (.callN16 0x0300, []) ∧ decode [0xEF] = .ok (.rst28, []) ∧
    decode [0xCB, 0x37] = .ok (.swapA, []) ∧ decode [0xCB, 0x7F] = .ok (.bit7A, []) ∧
    decode [0xCB, 0xDE] = .ok (.set3IndHl, []) ∧ decode [0xDD] = .ok (.illegal 0xDD, [])

/-! ### The step -/

/-- R120, R123, R131: when the bytes at `pc`, read in increasing address order, decode to `i`, the step runs `i` in the state
its own bytes' reads leave, then checks for an interrupt with the IME of the step's entry, then advances the devices by
four T-cycles for every M-cycle the step charged; a fault or a refusal of `i` is the step's. The advance is the timer's
step, then the audio step: the volume and the length expiry that the external units give, a length expiry disabling the
channel, then the sweep, then the duty timer (R262, R271, R285, R286). The two inputs are free values, a draw for each
audio step (log 4). The reads before any effect (D9), the four T-cycles (D1), the order of the devices (D3) and the form of
the two inputs (D27) are the spec's own choices. -/
def Obligations.StepRunsDecodedInstruction : Prop :=
  (∀ (s : State) (i : Instr) (rest : List Byte), s.stop = none → s.bus.cart.loaded = true → s.halted = false →
      let s1 := s.afterRead s.pc
      let s2 := s1.afterRead (s.pc + 1)
      let s3 := s2.afterRead (s.pc + 2)
      decode [s.byteAt s.pc, s1.byteAt (s.pc + 1), s2.byteAt (s.pc + 2)] = .ok (i, rest) →
        (∀ r, exec i (if rest.length = 2 then s1 else if rest.length = 1 then s2 else s3) = .fault r → step s = .fault r) ∧
        (∀ r, exec i (if rest.length = 2 then s1 else if rest.length = 1 then s2 else s3) = .refused r →
          step s = .refused r) ∧
        (∀ t, exec i (if rest.length = 2 then s1 else if rest.length = 1 then s2 else s3) = .next t →
          let u := t.checkInterrupts s.ime
          step s = .next { u with bus := u.bus.advance (4 * (u.cycles - s.cycles)) })) ∧
  (∀ (b : Bus) (cycles : Nat),
      let b1 := b.timerStep cycles
      let given :=
        { b1.ch1 with
          volume := Config.freeVolume b1.draws
          enabled := if Config.freeExpiry b1.draws then false else b1.ch1.enabled }
      b.advance cycles = { b1 with ch1 := (given.sweepCycle cycles).dutyCycle cycles, draws := b1.draws + 1 })

/-- R122, R258: a halted step executes nothing, wakes if an enabled interrupt is pending whatever IME is, costs 1, leaves the
halt-bug mark, and services the interrupt that woke it when IME is set. The four T-cycles of an M-cycle are the spec's own
choice (D1). -/
def Obligations.HaltedStepWaitsOrWakes : Prop :=
  ∀ s : State, s.stop = none → s.bus.cart.loaded = true → s.halted = true →
    let pending := ∃ k : IrqKind, s.bus.ie.getLsbD k.bit = true ∧ s.bus.iflags.getLsbD k.bit = true
    (¬pending → step s = .next { s with cycles := s.cycles + 1, bus := s.bus.advance 4 }) ∧
      (pending → s.ime = false →
        step s = .next { s with halted := false, cycles := s.cycles + 1, bus := s.bus.advance 4 }) ∧
      (pending → s.ime = true →
        ∃ k, s.bus.selectInterrupt = some k ∧
          step s =
            .next
              { { s with cycles := s.cycles + 1 }.serviceInterrupt k with
                bus := ({ s with cycles := s.cycles + 1 }.serviceInterrupt k).bus.advance 24 })

/-- R251, R252, R255: the kinds' bits. A request sets its kind's IF bit and changes nothing else. The selected interrupt is the
enabled and pending one of the lowest bit, and there is none exactly when no kind is enabled and pending; bits 7 to 5
select nothing. -/
def Obligations.SelectionIsByPriority : Prop :=
  (IrqKind.vblank.bit = 0 ∧ IrqKind.lcdc.bit = 1 ∧ IrqKind.timer.bit = 2 ∧ IrqKind.serial.bit = 3 ∧
      IrqKind.joypad.bit = 4) ∧
  (∀ (b : Bus) (k : IrqKind),
      let t := b.requestInterrupt k
      (∀ j : Nat, t.iflags.getLsbD j = (b.iflags.getLsbD j || decide (j = k.bit))) ∧ t.ie = b.ie ∧
        (∀ n : Nat, n ≠ 0xFF0F → Memory.read t.mem n = Memory.read b.mem n) ∧ t = { b with mem := t.mem }) ∧
  (∀ b : Bus,
      (∀ k : IrqKind, b.selectInterrupt = some k ↔
        (b.ie.getLsbD k.bit = true ∧ b.iflags.getLsbD k.bit = true) ∧
          ∀ j : IrqKind, j.bit < k.bit → ¬(b.ie.getLsbD j.bit = true ∧ b.iflags.getLsbD j.bit = true)) ∧
        (b.selectInterrupt = none ↔ ∀ k : IrqKind, ¬(b.ie.getLsbD k.bit = true ∧ b.iflags.getLsbD k.bit = true)))

/-- R253, R129: the entry of an interrupt. Halted and IME cleared, the kind's IF bit cleared and no other, the pc pushed high byte
first, the pc at `0x0040 + 8k`, 5 cycles charged; no register and no flag is saved or changed, and no byte that neither
the IF write nor the two pushes reach reads differently. And the check at the end of a step makes this entry for the
selected interrupt if IME was set at the step's entry and is still set, and does nothing otherwise. That the 5 cycles are
M-cycles is the spec's own choice (D1). -/
def Obligations.ServiceEntersTheHandler : Prop :=
  (∀ (s : State) (k : IrqKind),
      let cleared := Memory.write s.bus.mem 0xFF0F (s.bus.iflags &&& ~~~((1 : Byte) <<< k.bit))
      let b1 := { s.bus with mem := cleared }.write (s.sp - 1) (highByte s.pc)
      let t := s.serviceInterrupt k
      t =
          { s with
            halted := false, ime := false, sp := s.sp - 2, pc := BitVec.ofNat 16 (0x0040 + 8 * k.bit)
            cycles := s.cycles + 5, bus := b1.write (s.sp - 2) (lowByte s.pc) } ∧
        ({ s.bus with mem := cleared } : Bus).iflags.getLsbD k.bit = false ∧
        (∀ j : Nat, j ≠ k.bit → ({ s.bus with mem := cleared } : Bus).iflags.getLsbD j = s.bus.iflags.getLsbD j) ∧
        ∀ a : Word, a ≠ 0xFF0F → ¬s.bus.storeReaches (s.sp - 1) a → ¬b1.storeReaches (s.sp - 2) a →
          t.byteAt a = s.byteAt a) ∧
  (∀ (s : State) (imeAtEntry : Bool),
      (imeAtEntry = true → s.ime = true → ∀ k, s.bus.selectInterrupt = some k →
        s.checkInterrupts imeAtEntry = s.serviceInterrupt k) ∧
        (imeAtEntry = false ∨ s.ime = false ∨ s.bus.selectInterrupt = none → s.checkInterrupts imeAtEntry = s))

/-- R244, R243, R306: the step that executes EI with IME clear sets IME and takes no interrupt, and the step that executes DI
takes none either, whatever is pending. The four T-cycles of an M-cycle are the spec's own choice (D1). -/
def Obligations.EnableDelayAndDisableAtOnce : Prop :=
  ∀ s : State, s.stop = none → s.bus.cart.loaded = true → s.halted = false → s.haltBug = false →
    isExternal s.pc.toNat = false → s.pc.toNat ≠ 0xFF47 →
      (s.byteAt s.pc = 0xFB → s.ime = false →
        step s = .next { s with pc := s.pc + 1, ime := true, cycles := s.cycles + 1, bus := s.bus.advance 4 }) ∧
      (s.byteAt s.pc = 0xF3 →
        step s = .next { s with pc := s.pc + 1, ime := false, cycles := s.cycles + 1, bus := s.bus.advance 4 })

/-- R250, R245, R242, R132, R11, R303: a step inside the model ends the run exactly when it fetches one of the eleven illegal
bytes, or STOP in the mode `refuse`; every other step gives a next state, a halted one always. After a fault or a refusal
no step is taken and the end mark stays; without a cartridge no step is inside the model. A host's bus call (R53, R64,
R256) outside the address space ends the run with its fault and has no other effect, and inside it the call is a CPU
access or an unchecked one. The illegal-opcode fault and STOP's modes are the spec's own choices (D6, D7); the
refusal's name, and that a step answers its mark again, are the model's (log 8, log 12), and so is which calls have the
fault (log 19). -/
def Obligations.OnlyIllegalBytesAndStopEndARun : Prop :=
  (∀ s : State, s.canStep →
      (s.halted = true → ∃ t, step s = .next t) ∧
        (s.halted = false → s.byteAt s.pc ∈ illegalBytes →
          step s = .fault (.illegalOpcode s.pc (s.byteAt s.pc))) ∧
        (s.halted = false → s.byteAt s.pc = 0x10 → s.stopMode = .refuse → step s = .refused (.stopUnmodelled s.pc)) ∧
        (s.halted = false → s.byteAt s.pc ∉ illegalBytes → ¬(s.byteAt s.pc = 0x10 ∧ s.stopMode = .refuse) →
          ∃ t, step s = .next t)) ∧
  (∀ s : State,
      (∀ r, s.stop = some (.fault r) → step s = .fault r ∧ s.hostTick = s) ∧
        (∀ r, s.stop = some (.refusal r) → step s = .refused r ∧ s.hostTick = s) ∧
        (s.stop = none → s.bus.cart.loaded = false → step s = .refused .noCartridge) ∧
        (∀ r, step s = .fault r → s.hostTick = { s with stop := some (.fault r) })) ∧
  (∀ (s : State) (addr : Nat) (v : Byte), s.stop = none → 0xFFFF < addr →
      let ended := { s with stop := some (.fault (.addressOutOfRange addr)) }
      s.hostRead addr = (.error (.addressOutOfRange addr), ended) ∧
        s.hostReadAny addr = (.error (.addressOutOfRange addr), ended) ∧ s.hostWrite addr v = ended ∧
        s.hostWriteAny addr v = ended) ∧
  (∀ (s : State) (a : Word) (v : Byte),
      s.hostRead a.toNat = (.ok (s.bus.read a), { s with bus := s.bus.afterRead a }) ∧
        s.hostReadAny a.toNat = (.ok (s.bus.readAny a), s) ∧
        s.hostWrite a.toNat v = { s with bus := s.bus.write a v } ∧
        s.hostWriteAny a.toNat v = { s with bus := s.bus.writeAny a v })

/-! ### Registers and flags -/

/-- R20, R22, R9, R21: the seven operand registers are independent, a pair is its two registers with the first-named high, and
writing a pair writes both and nothing else. Every write of F, by a flag update, through AF or by the host, leaves bits 3
to 0 zero, and every read of F returns them as zero. -/
def Obligations.RegistersPairsAndF : Prop :=
  ((∀ (x : Regs) (r r' : Reg8) (v : Byte), (x.set r v).get r' = if r' = r then v else x.get r') ∧
      (∀ (x : Regs) (r : Reg8) (v : Byte), (x.set r v).f = x.f) ∧
      (∀ x : Regs, x.bc.toNat = 256 * x.b.toNat + x.c.toNat ∧ x.de.toNat = 256 * x.d.toNat + x.e.toNat ∧
        x.hl.toNat = 256 * x.h.toNat + x.l.toNat) ∧
      ∀ (x : Regs) (v : Word),
        (x.setBc v = { x with b := BitVec.ofNat 8 (v.toNat / 256), c := BitVec.ofNat 8 (v.toNat % 256) }) ∧
        (x.setDe v = { x with d := BitVec.ofNat 8 (v.toNat / 256), e := BitVec.ofNat 8 (v.toNat % 256) }) ∧
        (x.setHl v = { x with h := BitVec.ofNat 8 (v.toNat / 256), l := BitVec.ofNat 8 (v.toNat % 256) })) ∧
  ((∀ (x : Regs) (z n h c : Option Bool), (x.putFlags z n h c).f.toNat % 16 = 0) ∧
      (∀ (x : Regs) (v : Byte), (x.writeF v).f.toNat = v.toNat / 16 * 16) ∧
      (∀ (x : Regs) (v : Word), (x.setAf v).f.toNat = v.toNat % 256 / 16 * 16 ∧ (x.setAf v).a.toNat = v.toNat / 256) ∧
      ∀ x : Regs, x.readF.toNat = x.f.toNat / 16 * 16 ∧ x.af.toNat = 256 * x.a.toNat + x.f.toNat / 16 * 16)

/-! ### 8-bit loads (41_loads8.md) -/

/-- R140, R141: a register from a register, itself included, or from an immediate. -/
def Obligations.LoadRegister : Prop :=
  (∀ (dst src : Reg8) (s : State),
      encode (loadRegReg dst src) = [opByte 1 dst.code src.code] ∧
        exec (loadRegReg dst src) s = .next { s.retired 1 1 with regs := s.regs.set dst (s.regs.get src) }) ∧
  (∀ (dst : Reg8) (n8 : Byte) (s : State),
      encode (loadRegImm dst n8) = [opByte 0 dst.code 6, n8] ∧
        exec (loadRegImm dst n8) s = .next { s.retired 2 2 with regs := s.regs.set dst n8 })

/-- R142, R145, R147, R149, R151, R68: the loads from memory: any register at HL, A at BC, DE, an absolute address, `0xFF00 + n8`
and `0xFF00 + C`. The read is a CPU read, whose only other effects are those of the read itself. -/
def Obligations.LoadFromMemory : Prop :=
  (∀ (dst : Reg8) (s : State),
      encode (loadRegMem dst) = [opByte 1 dst.code 6] ∧
        exec (loadRegMem dst) s =
          .next
            { s.retired 1 2 with
              regs := s.regs.set dst (s.bus.read s.regs.hl), bus := s.bus.afterRead s.regs.hl }) ∧
  (∀ s : State,
      let loaded := fun (len cost : Nat) (a : Word) =>
        Host.Outcome.next { s.retired len cost with regs := { s.regs with a := s.bus.read a }, bus := s.bus.afterRead a }
      (encode .ldAIndBc = [0x0A] ∧ exec .ldAIndBc s = loaded 1 2 s.regs.bc) ∧
        (encode .ldAIndDe = [0x1A] ∧ exec .ldAIndDe s = loaded 1 2 s.regs.de) ∧
        (∀ n16 : Word, encode (.ldAMem n16) = [0xFA, lowByte n16, highByte n16] ∧
          exec (.ldAMem n16) s = loaded 3 4 n16) ∧
        (∀ n8 : Byte, encode (.ldhAMem n8) = [0xF0, n8] ∧
          exec (.ldhAMem n8) s = loaded 2 3 (BitVec.ofNat 16 (0xFF00 + n8.toNat))) ∧
        (encode .ldAHighC = [0xF2] ∧ exec .ldAHighC s = loaded 1 2 (BitVec.ofNat 16 (0xFF00 + s.regs.c.toNat))))

/-- R143, R144, R146, R148, R150, R152: the stores: any register or an immediate at HL, A at BC, DE, an absolute address,
`0xFF00 + n8` and `0xFF00 + C`. The store is a CPU write; no byte it does not reach changes. -/
def Obligations.StoreToMemory : Prop :=
  (∀ s : State,
      (∀ src : Reg8,
        encode (storeMemReg src) = [opByte 1 6 src.code] ∧
          StoresOneByte (exec (storeMemReg src) s)
            { s.retired 1 2 with bus := s.bus.write s.regs.hl (s.regs.get src) } s.bus s.regs.hl) ∧
        ∀ n8 : Byte,
          encode (.ldIndHlN8 n8) = [0x36, n8] ∧
            StoresOneByte (exec (.ldIndHlN8 n8) s) { s.retired 2 3 with bus := s.bus.write s.regs.hl n8 } s.bus s.regs.hl) ∧
  (∀ s : State,
      let stored := fun (i : Instr) (len cost : Nat) (a : Word) =>
        StoresOneByte (exec i s) { s.retired len cost with bus := s.bus.write a s.regs.a } s.bus a
      (encode .ldIndBcA = [0x02] ∧ stored .ldIndBcA 1 2 s.regs.bc) ∧
        (encode .ldIndDeA = [0x12] ∧ stored .ldIndDeA 1 2 s.regs.de) ∧
        (∀ n16 : Word, encode (.ldMemA n16) = [0xEA, lowByte n16, highByte n16] ∧ stored (.ldMemA n16) 3 4 n16) ∧
        (∀ n8 : Byte, encode (.ldhMemA n8) = [0xE0, n8] ∧
          stored (.ldhMemA n8) 2 3 (BitVec.ofNat 16 (0xFF00 + n8.toNat))) ∧
        (encode .ldHighCA = [0xE2] ∧ stored .ldHighCA 1 2 (BitVec.ofNat 16 (0xFF00 + s.regs.c.toNat))))

/-- R153 to R156: load or store at HL, then HL one up or one down; the wrap modulo 65536 is the spec's own choice (D5). -/
def Obligations.LoadAndStoreSteppingHl : Prop :=
  ∀ s : State,
    let loaded := fun (hl : Nat) =>
      Host.Outcome.next
        { s.retired 1 2 with
          regs := { s.regs with a := s.bus.read s.regs.hl }.setHl (BitVec.ofNat 16 hl)
          bus := s.bus.afterRead s.regs.hl }
    let stored := fun (i : Instr) (hl : Nat) =>
      StoresOneByte (exec i s)
        { s.retired 1 2 with
          regs := s.regs.setHl (BitVec.ofNat 16 hl), bus := s.bus.write s.regs.hl s.regs.a }
        s.bus s.regs.hl
    (encode .ldAHli = [0x2A] ∧ exec .ldAHli s = loaded (s.regs.hl.toNat + 1)) ∧
      (encode .ldAHld = [0x3A] ∧ exec .ldAHld s = loaded (s.regs.hl.toNat + 65535)) ∧
      (encode .ldHliA = [0x22] ∧ stored .ldHliA (s.regs.hl.toNat + 1)) ∧
      (encode .ldHldA = [0x32] ∧ stored .ldHldA (s.regs.hl.toNat + 65535))

/-! ### 16-bit loads and the stack (42_loads16.md) -/

/-- R160, R162: an immediate word to a pair, BC, DE, HL or SP, and HL to SP; no flag. -/
def Obligations.LoadPairAndStackPointer : Prop :=
  ∀ s : State,
    (∀ (p : Pair) (n16 : Word),
      encode (loadPairImm p n16) = [opByte 0 (2 * p.code) 1, lowByte n16, highByte n16] ∧
        exec (loadPairImm p n16) s =
          .next
            (match p with
            | .bc => { s.retired 3 3 with regs := s.regs.setBc n16 }
            | .de => { s.retired 3 3 with regs := s.regs.setDe n16 }
            | .hl => { s.retired 3 3 with regs := s.regs.setHl n16 }
            | .sp => { s.retired 3 3 with sp := n16 })) ∧
      encode .ldSpHl = [0xF9] ∧ exec .ldSpHl s = .next { s.retired 1 2 with sp := s.regs.hl }

/-- R163, R166, R161: PUSH stores the pair's high byte at `sp - 1` and its low byte at `sp - 2`, F with its low bits zero;
`LD (n16),SP` stores SP low byte first, at `n16` and `n16 + 1`; addresses modulo 65536. The byte order of `LD (n16),SP`
and the wrap are the spec's own choices (D4, D5). -/
def Obligations.PushAndStoreStackPointer : Prop :=
  (∀ (p : StackPair) (s : State),
      let hi := match p with | .bc => s.regs.b | .de => s.regs.d | .hl => s.regs.h | .af => s.regs.a
      let lo := match p with | .bc => s.regs.c | .de => s.regs.e | .hl => s.regs.l | .af => s.regs.f &&& 0xF0
      encode (pushPair p) = [opByte 3 (2 * p.code) 5] ∧
        StoresTwoBytes (exec (pushPair p) s)
          { s.retired 1 4 with sp := s.sp - 2, bus := (s.bus.write (s.sp - 1) hi).write (s.sp - 2) lo } s.bus
          (s.sp - 1) hi (s.sp - 2)) ∧
    ∀ (n16 : Word) (s : State),
      let lo : Byte := BitVec.ofNat 8 (s.sp.toNat % 256)
      let hi : Byte := BitVec.ofNat 8 (s.sp.toNat / 256)
      encode (.ldMemSp n16) = [0x08, lowByte n16, highByte n16] ∧
        StoresTwoBytes (exec (.ldMemSp n16) s)
          { s.retired 3 5 with bus := (s.bus.write n16 lo).write (BitVec.ofNat 16 (n16.toNat + 1)) hi } s.bus n16 lo
          (BitVec.ofNat 16 (n16.toNat + 1))

/-- R164, R167: POP reads the low byte at `sp` and the high byte at `sp + 1`; F takes bits 7 to 4 of the low byte. -/
def Obligations.PopLoadsThePair : Prop :=
  ∀ (p : StackPair) (s : State),
    let lo := s.bus.read s.sp
    let hi := (s.bus.afterRead s.sp).read (s.sp + 1)
    encode (popPair p) = [opByte 3 (2 * p.code) 1] ∧
      exec (popPair p) s =
        .next
          { s.retired 1 3 with
            sp := s.sp + 2
            bus := (s.bus.afterRead s.sp).afterRead (s.sp + 1)
            regs :=
              match p with
              | .bc => { s.regs with b := hi, c := lo }
              | .de => { s.regs with d := hi, e := lo }
              | .hl => { s.regs with h := hi, l := lo }
              | .af => { s.regs with a := hi, f := lo &&& 0xF0 } }

/-- R163, R164, R21: a pair pushed to plain storage and popped into a pair arrives unchanged, but for the low bits of F when it
is popped into AF, and `sp` is back. -/
def Obligations.PopAfterPushRestores : Prop :=
  ∀ (p q : StackPair) (s t u : State), isPlain (s.sp - 1).toNat → isPlain (s.sp - 2).toNat →
    ¬(s.bus.boot.active = true ∧ s.bus.boot.offAddr = s.sp - 1) →
    ¬(s.bus.boot.active = true ∧ s.bus.boot.offAddr = s.sp - 2) →
    echoFold (s.sp - 1).toNat ≠ echoFold (s.sp - 2).toNat →
      exec (pushPair p) s = .next t → exec (popPair q) t = .next u →
        u.stackPair q = (if q = .af then s.stackPair p &&& 0xFFF0 else s.stackPair p) ∧ u.sp = s.sp

/-- R165, R193: the sum of `sp` and the signed byte, with Z and N cleared and H and C from the unsigned addition of the byte to
the low byte of the old `sp`. The wrap of the sum is the spec's own choice (D5). -/
def Obligations.StackPointerPlusDisplacement : Prop :=
  ∀ (e8 : Byte) (s : State),
    let sum : Word := BitVec.ofNat 16 (s.sp.toNat + e8.toNat + if 128 ≤ e8.toNat then 0xFF00 else 0)
    let f := flagByte false false (decide (0x0F < s.sp.toNat % 16 + e8.toNat % 16))
      (decide (0xFF < s.sp.toNat % 256 + e8.toNat))
    (encode (.ldHlSpE8 e8) = [0xF8, e8] ∧
      exec (.ldHlSpE8 e8) s = .next { s.retired 2 3 with regs := { s.regs.setHl sum with f := f } }) ∧
      (encode (.addSpE8 e8) = [0xE8, e8] ∧
        exec (.addSpE8 e8) s = .next { s.retired 2 4 with sp := sum, regs := { s.regs with f := f } })

/-! ### 8-bit arithmetic and logic (43_alu8.md) -/

/-- R170, R105: the three forms of the source: a register, the byte at HL read once, an immediate; their bytes, lengths and
costs, for each of the eight operations. -/
def Obligations.AluSourceForms : Prop :=
  ∀ (op : AluOp) (s : State),
    (∀ r : Reg8, s.srcValue (.reg r) = s.regs.get r ∧ s.afterSrc (.reg r) = s ∧
      encode (aluInstr op (.reg r)) = [opByte 2 op.code r.code] ∧ srcLength (.reg r) = 1 ∧ srcCost (.reg r) = 1) ∧
      (s.srcValue .atHl = s.bus.read s.regs.hl ∧ s.afterSrc .atHl = { s with bus := s.bus.afterRead s.regs.hl } ∧
        encode (aluInstr op .atHl) = [opByte 2 op.code 6] ∧ srcLength .atHl = 1 ∧ srcCost .atHl = 2) ∧
      ∀ n8 : Byte, s.srcValue (.imm n8) = n8 ∧ s.afterSrc (.imm n8) = s ∧
        encode (aluInstr op (.imm n8)) = [opByte 3 op.code 6, n8] ∧ srcLength (.imm n8) = 2 ∧ srcCost (.imm n8) = 2

/-- R171, R172: ADD and ADC, with the sums on unbounded numbers. -/
def Obligations.AddAndAddWithCarry : Prop :=
  ∀ (src : AluSrc) (s : State),
    let a := s.regs.a.toNat
    let v := (s.srcValue src).toNat
    let sum := fun (c : Nat) =>
      Host.Outcome.next
        { (s.afterSrc src).retired (srcLength src) (srcCost src) with
          regs :=
            { s.regs with
              a := BitVec.ofNat 8 (a + v + c)
              f := flagByte (decide ((a + v + c) % 256 = 0)) false (decide (0x0F < a % 16 + v % 16 + c))
                (decide (0xFF < a + v + c)) } }
    exec (aluInstr .add src) s = sum 0 ∧ exec (aluInstr .adc src) s = sum s.regs.flagC.toNat

/-- R173, R174, R178: SUB and SBC, and CP with the flags of SUB and A unchanged. -/
def Obligations.SubtractAndCompare : Prop :=
  ∀ (src : AluSrc) (s : State),
    let a := s.regs.a.toNat
    let v := (s.srcValue src).toNat
    let difference := fun (writes : Bool) (c : Nat) =>
      Host.Outcome.next
        { (s.afterSrc src).retired (srcLength src) (srcCost src) with
          regs :=
            { s.regs with
              a := if writes then BitVec.ofNat 8 (a + 512 - v - c) else s.regs.a
              f := flagByte (decide ((a + 512 - v - c) % 256 = 0)) true (decide (a % 16 < v % 16 + c))
                (decide (a < v + c)) } }
    exec (aluInstr .sub src) s = difference true 0 ∧
      exec (aluInstr .sbc src) s = difference true s.regs.flagC.toNat ∧
      exec (aluInstr .cp src) s = difference false 0

/-- R175, R176, R177: AND sets H; XOR and OR clear it; N and C are cleared. -/
def Obligations.LogicOperations : Prop :=
  ∀ (src : AluSrc) (s : State),
    let v := s.srcValue src
    let logic := fun (result : Byte) (h : Bool) =>
      Host.Outcome.next
        { (s.afterSrc src).retired (srcLength src) (srcCost src) with
          regs := { s.regs with a := result, f := flagByte (decide (result = 0)) false h false } }
    exec (aluInstr .and src) s = logic (s.regs.a &&& v) true ∧
      exec (aluInstr .xor src) s = logic (s.regs.a ^^^ v) false ∧
      exec (aluInstr .or src) s = logic (s.regs.a ||| v) false

/-- R179 to R182: INC and DEC of a register and of the byte at HL, C unchanged. -/
def Obligations.IncrementAndDecrement : Prop :=
  ∀ (t : Target) (s : State),
    let v := match t with | .reg r => (s.regs.get r).toNat | .atHl => (s.bus.read s.regs.hl).toNat
    let incF := flagByte (decide (v = 255)) false (decide (v % 16 = 15)) s.regs.flagC
    let decF := flagByte (decide (v = 1)) true (decide (v % 16 = 0)) s.regs.flagC
    encode (incTarget t) = [opByte 0 t.code 4] ∧ encode (decTarget t) = [opByte 0 t.code 5] ∧
      match t with
      | .reg r =>
        exec (incTarget t) s =
            .next { s.retired 1 1 with regs := { s.regs.set r (BitVec.ofNat 8 (v + 1)) with f := incF } } ∧
          exec (decTarget t) s =
            .next { s.retired 1 1 with regs := { s.regs.set r (BitVec.ofNat 8 (v + 255)) with f := decF } }
      | .atHl =>
        let b := s.bus.afterRead s.regs.hl
        StoresOneByte (exec (incTarget t) s)
            { s.retired 1 3 with
              regs := { s.regs with f := incF }, bus := b.write s.regs.hl (BitVec.ofNat 8 (v + 1)) }
            b s.regs.hl ∧
          StoresOneByte (exec (decTarget t) s)
            { s.retired 1 3 with
              regs := { s.regs with f := decF }, bus := b.write s.regs.hl (BitVec.ofNat 8 (v + 255)) }
            b s.regs.hl

/-- R183 to R186: DAA, with the adjustment as a number, N unchanged, H cleared, C set by a `0x60` adjustment after an addition and
kept after a subtraction; CPL, SCF and CCF. -/
def Obligations.DecimalAdjustAndComplement : Prop :=
  (∀ s : State,
      let a := s.regs.a.toNat
      let adjust := daaNat a s.regs.flagN s.regs.flagH s.regs.flagC
      let result := if s.regs.flagN then (a + 256 - adjust) % 256 else (a + adjust) % 256
      let c := s.regs.flagC || (!s.regs.flagN && decide (0x99 < a))
      encode .daa = [0x27] ∧
        exec .daa s =
          .next
            { s.retired 1 1 with
              regs :=
                { s.regs with
                  a := BitVec.ofNat 8 result, f := flagByte (decide (result = 0)) s.regs.flagN false c } }) ∧
  (∀ s : State,
      (encode .cpl = [0x2F] ∧
        exec .cpl s =
          .next
            { s.retired 1 1 with
              regs :=
                { s.regs with
                  a := BitVec.ofNat 8 (255 - s.regs.a.toNat), f := flagByte s.regs.flagZ true true s.regs.flagC } }) ∧
        (encode .scf = [0x37] ∧
          exec .scf s = .next { s.retired 1 1 with regs := { s.regs with f := flagByte s.regs.flagZ false false true } }) ∧
        (encode .ccf = [0x3F] ∧
          exec .ccf s =
            .next { s.retired 1 1 with regs := { s.regs with f := flagByte s.regs.flagZ false false !s.regs.flagC } }))

/-- Derived from R171 to R174 and R183: after ADD, ADC, SUB or SBC of two packed decimal numbers, DAA leaves the decimal sum or
difference, modulo 100, with C the decimal carry or borrow. -/
def Obligations.DecimalArithmetic : Prop :=
  ∀ (s t u : State) (x y : Nat) (op : AluOp) (src : AluSrc), x < 100 → y < 100 →
    s.regs.a.toNat = 16 * (x / 10) + x % 10 → (s.srcValue src).toNat = 16 * (y / 10) + y % 10 →
    exec (aluInstr op src) s = .next t → exec .daa t = .next u →
      let c := s.regs.flagC.toNat
      let sum := fun n => u.regs.a.toNat = 16 * (n % 100 / 10) + n % 10 ∧ u.regs.flagC = decide (100 ≤ n)
      let difference := fun n => u.regs.a.toNat = 16 * (n % 100 / 10) + n % 10 ∧ u.regs.flagC = decide (n < 100)
      (op = .add → sum (x + y)) ∧ (op = .adc → sum (x + y + c)) ∧ (op = .sub → difference (x + 100 - y)) ∧
        (op = .sbc → difference (x + 100 - y - c))

/-! ### 16-bit arithmetic (44_alu16.md) -/

/-- R190: HL plus a pair, H from bit 11, C from bit 15, N cleared, Z unchanged. The wrap of the sum is the spec's own choice
(D5). -/
def Obligations.AddToHl : Prop :=
  ∀ (p : Pair) (s : State),
    let hl := s.regs.hl.toNat
    let v := match p with
      | .bc => s.regs.bc.toNat | .de => s.regs.de.toNat | .hl => s.regs.hl.toNat | .sp => s.sp.toNat
    encode (addHlPair p) = [opByte 0 (2 * p.code + 1) 1] ∧
      exec (addHlPair p) s =
        .next
          { s.retired 1 2 with
            regs :=
              { s.regs.setHl (BitVec.ofNat 16 (hl + v)) with
                f := flagByte s.regs.flagZ false (decide (0x0FFF < hl % 4096 + v % 4096)) (decide (0xFFFF < hl + v)) } }

/-- R191, R192: a pair one up or one down modulo 65536; no flag. The wrap is the spec's own choice (D5). -/
def Obligations.StepPair : Prop :=
  ∀ (p : Pair) (s : State),
    let stepped := fun (d : Nat) =>
      match p with
      | .bc => { s.retired 1 2 with regs := s.regs.setBc (BitVec.ofNat 16 (s.regs.bc.toNat + d)) }
      | .de => { s.retired 1 2 with regs := s.regs.setDe (BitVec.ofNat 16 (s.regs.de.toNat + d)) }
      | .hl => { s.retired 1 2 with regs := s.regs.setHl (BitVec.ofNat 16 (s.regs.hl.toNat + d)) }
      | .sp => { s.retired 1 2 with sp := BitVec.ofNat 16 (s.sp.toNat + d) }
    (encode (incPair p) = [opByte 0 (2 * p.code) 3] ∧ exec (incPair p) s = .next (stepped 1)) ∧
      (encode (decPair p) = [opByte 0 (2 * p.code + 1) 3] ∧ exec (decPair p) s = .next (stepped 65535))

/-! ### Rotates, shifts and bits (45_rotate_shift_bit.md) -/

/-- R200 to R203: the accumulator rotates, Z always cleared. -/
def Obligations.AccumulatorRotates : Prop :=
  ∀ s : State,
    let rotated := fun (op : RotOp) =>
      Host.Outcome.next
        { s.retired 1 1 with
          regs :=
            { s.regs with
              a := BitVec.ofNat 8 (rotNat op s.regs.a.toNat s.regs.flagC.toNat)
              f := flagByte false false false (rotOut op s.regs.a.toNat) } }
    (encode .rlca = [0x07] ∧ exec .rlca s = rotated .rlc) ∧ (encode .rrca = [0x0F] ∧ exec .rrca s = rotated .rrc) ∧
      (encode .rla = [0x17] ∧ exec .rla s = rotated .rl) ∧ (encode .rra = [0x1F] ∧ exec .rra s = rotated .rr)

/-- R204 to R212: the prefixed rotates and shifts, of a register and of the byte at HL: one read, then one write. -/
def Obligations.PrefixedRotatesAndShifts : Prop :=
  ∀ (op : RotOp) (t : Target) (s : State),
    let v := match t with | .reg r => (s.regs.get r).toNat | .atHl => (s.bus.read s.regs.hl).toNat
    let r := rotNat op v s.regs.flagC.toNat
    let f := flagByte (decide (r = 0)) false false (rotOut op v)
    encode (rotInstr op t) = [0xCB, opByte 0 op.code t.code] ∧
      match t with
      | .reg x =>
        exec (rotInstr op t) s =
          .next { s.retired 2 2 with regs := { s.regs.set x (BitVec.ofNat 8 r) with f := f } }
      | .atHl =>
        let b := s.bus.afterRead s.regs.hl
        StoresOneByte (exec (rotInstr op t) s)
          { s.retired 2 4 with regs := { s.regs with f := f }, bus := b.write s.regs.hl (BitVec.ofNat 8 r) } b s.regs.hl

/-- R213: BIT sets Z from the bit, clears N, sets H, keeps C and writes nothing else. -/
def Obligations.TestBit : Prop :=
  ∀ (n : Fin 8) (t : Target) (s : State),
    let v := match t with | .reg r => (s.regs.get r).toNat | .atHl => (s.bus.read s.regs.hl).toNat
    let f := flagByte (decide (v / 2 ^ n.val % 2 = 0)) false true s.regs.flagC
    encode (bitInstr n t) = [0xCB, opByte 1 n.val t.code] ∧
      exec (bitInstr n t) s =
        .next
          (match t with
          | .reg _ => { s.retired 2 2 with regs := { s.regs with f := f } }
          | .atHl => { s.retired 2 3 with regs := { s.regs with f := f }, bus := s.bus.afterRead s.regs.hl })

/-- R214, R215: RES and SET write the value with the bit cleared or set, also where it already was; no flag. -/
def Obligations.ResetAndSetBit : Prop :=
  ∀ (n : Fin 8) (t : Target) (s : State),
    let v := match t with | .reg r => (s.regs.get r).toNat | .atHl => (s.bus.read s.regs.hl).toNat
    let cleared : Byte := BitVec.ofNat 8 (v - 2 ^ n.val * (v / 2 ^ n.val % 2))
    let set : Byte := BitVec.ofNat 8 (v + 2 ^ n.val * (1 - v / 2 ^ n.val % 2))
    encode (resInstr n t) = [0xCB, opByte 2 n.val t.code] ∧ encode (setInstr n t) = [0xCB, opByte 3 n.val t.code] ∧
      match t with
      | .reg r =>
        exec (resInstr n t) s = .next { s.retired 2 2 with regs := s.regs.set r cleared } ∧
          exec (setInstr n t) s = .next { s.retired 2 2 with regs := s.regs.set r set }
      | .atHl =>
        let b := s.bus.afterRead s.regs.hl
        StoresOneByte (exec (resInstr n t) s) { s.retired 2 4 with bus := b.write s.regs.hl cleared } b s.regs.hl ∧
          StoresOneByte (exec (setInstr n t) s) { s.retired 2 4 with bus := b.write s.regs.hl set } b s.regs.hl

/-- R204, R108: the prefix byte's own row of the opcode table is the extended instruction that the byte after it selects, which
always completes. That this row is a constructor of its own, which no bytes decode to, is the model's choice (log 10). -/
def Obligations.PrefixRunsTheExtendedInstruction : Prop :=
  (∀ (b1 b2 : Byte) (s : State),
      exec (.prefixCb b1) s = exec (decodeBytes 0xCB b1 b2) s ∧
        encode (.prefixCb b1) = encode (decodeBytes 0xCB b1 b2) ∧ ∃ t, exec (.prefixCb b1) s = .next t) ∧
  (∀ b0 b1 b2 b : Byte, decodeBytes b0 b1 b2 ≠ .prefixCb b)

/-! ### Control transfer (46_control.md) -/

/-- R220 to R224, R125, R104: the jumps; a conditional one is taken when its condition holds, else only the pc advances. The
wrap of a relative target (D5), and that a jump not taken with a halt bug pending keeps the pc (R120, R127, D8), are the
spec's own choices. -/
def Obligations.Jumps : Prop :=
  (∀ s : State,
      (∀ n16 : Word, encode (.jpN16 n16) = [0xC3, lowByte n16, highByte n16] ∧
        exec (.jpN16 n16) s = .next (s.jumped n16 4)) ∧
        (encode .jpHl = [0xE9] ∧ exec .jpHl s = .next (s.jumped s.regs.hl 1)) ∧
        ∀ e8 : Byte, encode (.jrE8 e8) = [0x18, e8] ∧
          exec (.jrE8 e8) s = .next (s.jumped (BitVec.ofNat 16 (relativeNat s.pc e8)) 3)) ∧
  (∀ (cc : Cond) (s : State),
      let taken := match cc with
        | .nz => s.regs.flagZ = false | .z => s.regs.flagZ = true | .nc => s.regs.flagC = false | .c => s.regs.flagC = true
      (∀ n16 : Word, encode (jumpIf cc n16) = [opByte 3 cc.code 2, lowByte n16, highByte n16] ∧
        (taken → exec (jumpIf cc n16) s = .next (s.jumped n16 4)) ∧
        (¬taken → exec (jumpIf cc n16) s = .next (s.retired 3 3))) ∧
        ∀ e8 : Byte, encode (jumpRelIf cc e8) = [opByte 0 (4 + cc.code) 0, e8] ∧
          (taken → exec (jumpRelIf cc e8) s = .next (s.jumped (BitVec.ofNat 16 (relativeNat s.pc e8)) 3)) ∧
          (¬taken → exec (jumpRelIf cc e8) s = .next (s.retired 2 2)))

/-- R225, R226, R230, R166: CALL pushes `pc + 3` and RST `pc + 1`, high byte first; CALL cc does as CALL when its condition holds,
else only the pc advances and nothing is pushed. That a call not taken with a halt bug pending keeps
the pc is the spec's own choice (R120, R127, D8). -/
def Obligations.CallsPushTheReturnAddress : Prop :=
  (∀ s : State,
      let called := fun (i : Instr) (back : Nat) (target : Word) (cost : Nat) =>
        let hi : Byte := BitVec.ofNat 8 (back % 65536 / 256)
        let lo : Byte := BitVec.ofNat 8 (back % 256)
        StoresTwoBytes (exec i s)
          { s.jumped target cost with sp := s.sp - 2, bus := (s.bus.write (s.sp - 1) hi).write (s.sp - 2) lo } s.bus
          (s.sp - 1) hi (s.sp - 2)
      (∀ n16 : Word, encode (.callN16 n16) = [0xCD, lowByte n16, highByte n16] ∧
        called (.callN16 n16) (s.pc.toNat + 3) n16 6) ∧
        ∀ y : Fin 8, encode (restart y) = [opByte 3 y.val 7] ∧
          called (restart y) (s.pc.toNat + 1) (BitVec.ofNat 16 (8 * y.val)) 4) ∧
  (∀ (cc : Cond) (n16 : Word) (s : State),
      let taken := match cc with
        | .nz => s.regs.flagZ = false | .z => s.regs.flagZ = true | .nc => s.regs.flagC = false | .c => s.regs.flagC = true
      let hi : Byte := BitVec.ofNat 8 ((s.pc.toNat + 3) % 65536 / 256)
      let lo : Byte := BitVec.ofNat 8 ((s.pc.toNat + 3) % 256)
      encode (callIf cc n16) = [opByte 3 cc.code 4, lowByte n16, highByte n16] ∧
        (taken →
          StoresTwoBytes (exec (callIf cc n16) s)
            { s.jumped n16 6 with sp := s.sp - 2, bus := (s.bus.write (s.sp - 1) hi).write (s.sp - 2) lo } s.bus (s.sp - 1)
            hi (s.sp - 2)) ∧
        (¬taken → exec (callIf cc n16) s = .next (s.retired 3 3)))

/-- R227, R228, R229, R257: RET and RET cc pop the pc, low byte first; RETI sets IME too and restores nothing else; a
RET cc not taken only advances the pc. That it keeps the pc with a halt bug pending is the spec's own choice (R120, R127,
D8). -/
def Obligations.ReturnsPopThePc : Prop :=
  ∀ s : State,
    let lo := (s.bus.read s.sp).toNat
    let hi := ((s.bus.afterRead s.sp).read (s.sp + 1)).toNat
    let returned := fun (cost : Nat) =>
      { s.jumped (BitVec.ofNat 16 (256 * hi + lo)) cost with
        sp := s.sp + 2, bus := (s.bus.afterRead s.sp).afterRead (s.sp + 1) }
    (encode .ret = [0xC9] ∧ exec .ret s = .next (returned 4)) ∧
      (encode .reti = [0xD9] ∧ exec .reti s = .next { returned 4 with ime := true }) ∧
      ∀ cc : Cond, encode (returnIf cc) = [opByte 3 cc.code 0] ∧
        let taken := match cc with
          | .nz => s.regs.flagZ = false | .z => s.regs.flagZ = true | .nc => s.regs.flagC = false
          | .c => s.regs.flagC = true
        (taken → exec (returnIf cc) s = .next (returned 5)) ∧ (¬taken → exec (returnIf cc) s = .next (s.retired 1 2))

/-! ### System instructions (47_system.md) -/

/-- R240, R243, R244, R241: NOP does nothing, DI clears IME, EI sets it; HALT enters the halted state and, with IME clear, arms
the halt bug, and its pc advances by 1. That the halt bug is armed whether or not an interrupt is already pending is the
spec's own choice (D8). -/
def Obligations.NopHaltAndInterruptEnables : Prop :=
  (∀ s : State,
      (encode .nop = [0x00] ∧ exec .nop s = .next (s.retired 1 1)) ∧
        (encode .di = [0xF3] ∧ exec .di s = .next { s.retired 1 1 with ime := false }) ∧
        (encode .ei = [0xFB] ∧ exec .ei s = .next { s.retired 1 1 with ime := true })) ∧
  (∀ s : State, encode .halt = [0x76] ∧ exec .halt s = .next { s.retired 1 1 with halted := true, haltBug := !s.ime })

/-- R242: STOP by the machine's `STOP_MODE`, whatever its second byte. Which mode a machine is built with is its parameter; the
two modes, and that the parameter's own value is `refuse` (R7), are the spec's own choice (D7). -/
def Obligations.StopFollowsItsMode : Prop :=
  ∀ (n8 : Byte) (s : State),
    encode (.stop n8) = [0x10, n8] ∧
      (s.stopMode = .refuse → exec (.stop n8) s = .refused (.stopUnmodelled s.pc)) ∧
      (s.stopMode = .nop2 → exec (.stop n8) s = .next (s.retired 2 1))

/-- R245, R110: each of the eleven illegal bytes decodes to ILLEGAL, no other first byte does, and ILLEGAL is the fault that
records the pc and the byte. The fault is the spec's own choice (D6). -/
def Obligations.IllegalBytesFault : Prop :=
  (∀ b0 b1 b2 : Byte, (∃ b, decodeBytes b0 b1 b2 = .illegal b) ↔ b0 ∈ illegalBytes) ∧
    (∀ b0 b1 b2 : Byte, b0 ∈ illegalBytes → decodeBytes b0 b1 b2 = .illegal b0) ∧
    ∀ (b0 : Byte) (s : State), exec (.illegal b0) s = .fault (.illegalOpcode s.pc b0)

/-- R127, R124, R307: with a halt bug pending, an instruction that does not write the pc itself runs in full and keeps the pc, so
the next step fetches it again: without the mark it leaves the same state but for the pc, which is past it. An instruction
that does write the pc (a jump, call, return or restart, a conditional one only when its condition holds) leaves the same
state with and without the mark. The mark is consumed, and pending again only after a HALT that arms it. The sampling
and the branch not taken are the spec's own choice (D8). -/
def Obligations.HaltBugRepeatsTheInstruction : Prop :=
  ∀ (i : Instr) (s t t' : State), s.haltBug = true → exec i s = .next t → exec i { s with haltBug := false } = .next t' →
    (i ≠ .halt → t.haltBug = false) ∧ (writesPc i s = true → t' = t) ∧
      (writesPc i s = false → t.pc = s.pc ∧ t' = { t with pc := s.pc + BitVec.ofNat 16 (encode i).length })

/-! ### The bus (20_memory.md) -/

/-- R60, R63, R54, R52: a store to plain storage reads back as written through either alias of the address. That nothing locks
that storage is the spec's own choice (D32). -/
def Obligations.PlainStorageReadsBack : Prop :=
  ∀ (b : Bus) (a a' : Word) (v : Byte), isPlain a.toNat → ¬(b.boot.active = true ∧ a = b.boot.offAddr) →
    echoFold a'.toNat = echoFold a.toNat → (b.write a v).read a' = v

/-- R57, R58, R59, R62: the addresses with a rule of their own. 0xFF44 discards and logs a write; 0xFF47 stores a write, reads
as 0xFF and logs the read; the unusable region reads as zero and discards a write; a write to an external device
changes nothing, and a read of one is a free value (log 3). The environment's unchecked accesses (R53) are the
CPU's but for these: a write to 0xFF44 is stored and not logged, and a read of 0xFF47 or of an external register gives the
stored byte. The external registers and the unchecked accesses are the spec's own choices (D22, D33). -/
def Obligations.SpecialAddresses : Prop :=
  ∀ (b : Bus) (a : Word) (v : Byte), ¬(b.boot.active = true ∧ a = b.boot.offAddr) →
    (a = 0xFF44 → b.write a v = { b with log := b.log ++ [.writeReadOnly a v] } ∧ b.read a = Memory.read b.mem 0xFF44) ∧
      (a = 0xFF47 →
        b.write a v = { b with mem := Memory.write b.mem 0xFF47 v } ∧ b.read a = 0xFF ∧
          b.afterRead a = { b with log := b.log ++ [.readWriteOnly a] } ∧ b.readAny a = Memory.read b.mem 0xFF47) ∧
      (0xFEA0 ≤ a.toNat → a.toNat ≤ 0xFEFF → b.write a v = b ∧ b.read a = 0x00) ∧
      (isExternal a.toNat = true →
        b.write a v = b ∧ b.read a = Config.freeByte b.draws ∧ b.afterRead a = { b with draws := b.draws + 1 }) ∧
      (a.toNat ≠ 0xFF47 → isExternal a.toNat = false → b.afterRead a = b) ∧
      (b.writeAny a v = if a = 0xFF44 then { b with mem := Memory.write b.mem 0xFF44 v } else b.write a v) ∧
      (isExternal a.toNat = true → b.readAny a = Memory.read b.mem a.toNat) ∧
      (a ≠ 0xFF47 → isExternal a.toNat = false → b.readAny a = b.read a)

/-- R55, R56: an active overlay covers reads of 0x0000 to 0x00FF; any write to its exit register, by the CPU or
unchecked, ends it and goes nowhere else; from then on the cartridge reads there. The exit register is the spec's own choice (D12). -/
def Obligations.BootOverlayEnds : Prop :=
  ∀ (b : Bus) (image : Memory) (v : Byte), b.boot.image = some image → b.boot.active = true →
    (∀ a : Word, a.toNat ≤ 0x00FF → b.read a = Memory.read image a.toNat) ∧
      (∀ a : Word, 0x0100 ≤ a.toNat → a.toNat ≤ 0x3FFF → b.read a = Memory.read b.cart.rom a.toNat) ∧
      b.write b.boot.offAddr v = { b with boot := { b.boot with active := false } } ∧
      b.writeAny b.boot.offAddr v = { b with boot := { b.boot with active := false } } ∧
      ∀ a : Word, a.toNat ≤ 0x00FF → (b.write b.boot.offAddr v).read a = Memory.read b.cart.rom a.toNat

/-- R87 to R92: the MBC1 registers. RAM enable by the low nibble; the ROM bank's low five bits, at least 1; the upper two bits;
the mode; and after each of the last three the effective banks, reduced modulo the bank count and never 0. That mode 0 is
the extended-ROM one, and the zero RAM bank outside RAM banking, are the spec's own choices (D14, D15, D17). -/
def Obligations.Mbc1Registers : Prop :=
  ∀ (b : Bus) (a : Word) (v : Byte), b.boot.active = false → b.cart.kind = .mbc1 →
    let low := if v.toNat % 32 = 0 then 1 else v.toNat % 32
    let banked := fun (low high : Nat) (mode : Bool) =>
      let raw := if mode = false ∧ 64 ≤ b.cart.romBankCount then low + 32 * high else low
      let t := b.write a v
      t.cart =
        { b.cart with
          bankLow5 := BitVec.ofNat 5 low, bankHigh2 := BitVec.ofNat 2 high, mode := mode
          romBank := if raw % b.cart.romBankCount = 0 then 1 else raw % b.cart.romBankCount
          ramBank := if mode = true ∧ b.cart.ramBankCount = 4 then high else 0 } ∧
        t = { b with cart := t.cart }
    (a.toNat ≤ 0x1FFF →
      b.write a v = { b with cart := { b.cart with ramEnabled := decide (v.toNat % 16 = 10) } }) ∧
      (0x2000 ≤ a.toNat → a.toNat ≤ 0x3FFF → banked low b.cart.bankHigh2.toNat b.cart.mode) ∧
      (0x4000 ≤ a.toNat → a.toNat ≤ 0x5FFF → banked b.cart.bankLow5.toNat (v.toNat % 4) b.cart.mode) ∧
      (0x6000 ≤ a.toNat → a.toNat ≤ 0x7FFF →
        banked b.cart.bankLow5.toNat b.cart.bankHigh2.toNat (decide (v.toNat % 2 = 1)))

/-- R93, R94, R86: the MBC3 registers, and a cartridge without a controller, whose writes are discarded and logged. The whole
byte as the MBC3 bank number and the unlogged write to 0x6000 are the spec's own choices (D18), as are the reduction of
the bank number (R92, D17) and the log of R86 (D13). -/
def Obligations.Mbc3RegistersAndNoController : Prop :=
  ∀ (b : Bus) (a : Word) (v : Byte), b.boot.active = false →
    (b.cart.kind = .mbc3 →
      (a.toNat ≤ 0x1FFF →
        b.write a v = { b with cart := { b.cart with ramEnabled := decide (v.toNat % 16 = 10) } }) ∧
      (0x2000 ≤ a.toNat → a.toNat ≤ 0x3FFF →
        b.write a v =
          { b with
            cart :=
              { b.cart with
                romBank := if v.toNat % b.cart.romBankCount = 0 then 1 else v.toNat % b.cart.romBankCount } }) ∧
      (0x4000 ≤ a.toNat → a.toNat ≤ 0x5FFF →
        b.write a v = { b with cart := { b.cart with ramBank := v.toNat % 4 } }) ∧
      (0x6000 ≤ a.toNat → a.toNat ≤ 0x7FFF → b.write a v = b)) ∧
      (b.cart.kind = .none → a.toNat ≤ 0x7FFF → b.write a v = { b with log := b.log ++ [.writeReadOnly a v] })

/-- R83, R84: the ROM windows and the RAM window, which reads 0xFF and drops writes unless RAM is enabled and present. The guard
and the reduction of the RAM bank are the spec's own choice (D16). -/
def Obligations.CartridgeWindows : Prop :=
  ∀ (b : Bus) (a : Word) (v : Byte), b.boot.active = false →
    (a.toNat ≤ 0x3FFF → b.read a = Memory.read b.cart.rom a.toNat) ∧
      (0x4000 ≤ a.toNat → a.toNat ≤ 0x7FFF →
        b.read a = Memory.read b.cart.rom (b.cart.romBank * 0x4000 + (a.toNat - 0x4000))) ∧
      (0xA000 ≤ a.toNat → a.toNat ≤ 0xBFFF → b.cart.ramEnabled = true → 0 < b.cart.ramBankCount →
        b.read a = Memory.read b.cart.ram (b.cart.ramBank % b.cart.ramBankCount * 0x2000 + (a.toNat - 0xA000)) ∧
          (b.write a v).read a = v) ∧
      (0xA000 ≤ a.toNat → a.toNat ≤ 0xBFFF → ¬(b.cart.ramEnabled = true ∧ 0 < b.cart.ramBankCount) →
        b.read a = 0xFF ∧ b.write a v = b)

/-- R80, R81, R82, R95, R303: what a load reads from the header, the Color flags included, the bank state it leaves (R38), and that
a failed load changes nothing and a successful one replaces the cartridge alone. The failures for a short image and a
large RAM-size byte are the spec's own choice (D19), and so is the bank state (D11); that a byte past the end of an image
reads 0 is the model's (log 17). -/
def Obligations.LoadReadsTheHeader : Prop :=
  ∀ (s : State) (rom : List Byte) (saved : Option (List Byte)),
    let k := (rom.getD 0x0147 0).toNat
    let n := (rom.getD 0x0148 0).toNat
    let size := (rom.getD 0x0149 0).toNat
    let flag := (rom.getD 0x0143 0).toNat
    let supported := k = 0 ∨ (1 ≤ k ∧ k ≤ 3) ∨ (0x0F ≤ k ∧ k ≤ 0x13)
    (rom.length < 0x0150 → loadCartridge rom saved = .error .malformedRom) ∧
      (0x0150 ≤ rom.length → ¬supported → loadCartridge rom saved = .error (.unsupportedController (rom.getD 0x0147 0))) ∧
      (0x0150 ≤ rom.length → supported → rom.length < 2 ^ (n + 1) * 0x4000 ∨ 5 < size →
        loadCartridge rom saved = .error .malformedRom) ∧
      (0x0150 ≤ rom.length → supported → 2 ^ (n + 1) * 0x4000 ≤ rom.length → size ≤ 5 →
        ∃ c, loadCartridge rom saved = .ok c ∧ s.loadGame rom saved = .ok { s with bus := { s.bus with cart := c } } ∧
          c.loaded = true ∧ c.kind = (if k = 0 then .none else if k ≤ 3 then .mbc1 else .mbc3) ∧
          c.romBankCount = 2 ^ (n + 1) ∧ c.ramBankCount = [0, 0, 1, 4, 16, 8].getD size 0 ∧
          (∀ j, Memory.read c.rom j = rom.getD j 0) ∧
          (∀ j, Memory.read c.ram j =
            match saved with
            | some bytes => if bytes.length = c.ramBankCount * 8192 then bytes.getD j 0 else 0
            | none => 0) ∧
          c.romLength = rom.length ∧ c.supportsCgb = decide (128 ≤ flag) ∧ c.requiresCgb = decide (flag = 0xC0) ∧
          c.romBank = 1 ∧ c.ramBank = 0 ∧ c.ramEnabled = false ∧ c.bankLow5 = 1 ∧ c.bankHigh2 = 0 ∧ c.mode = false) ∧
      ∀ e, loadCartridge rom saved = .error e → s.loadGame rom saved = .error e ∧ (EnvAction.load rom saved).apply s = s

/-! ### The timer (60_exceptions.md) -/

/-- R264, R265, R266: the timer registers through the bus: what each reads as and what each write does. That a TAC write keeps
the accumulator is the spec's own choice (D20). -/
def Obligations.TimerRegisters : Prop :=
  ∀ (b : Bus) (v : Byte), ¬(b.boot.active = true ∧ 0xFF04 ≤ b.boot.offAddr.toNat ∧ b.boot.offAddr.toNat ≤ 0xFF07) →
    (b.read 0xFF04 = BitVec.ofNat 8 (b.timer.div.toNat / 256) ∧ b.read 0xFF05 = b.timer.tima ∧
      b.read 0xFF06 = b.timer.tma ∧ b.read 0xFF07 = BitVec.ofNat 8 (0xF8 + b.timer.tac.toNat)) ∧
      b.write 0xFF04 v = { b with timer := { b.timer with div := 0, acc := 0 } } ∧
      b.write 0xFF05 v = { b with timer := { b.timer with tima := v } } ∧
      b.write 0xFF06 v = { b with timer := { b.timer with tma := v } } ∧
      b.write 0xFF07 v = { b with timer := { b.timer with tac := BitVec.ofNat 3 v.toNat } } ∧
      (b.timer.tac.toNat % 4 = 0 → timerPeriod b.timer.tac = 1024) ∧
      (b.timer.tac.toNat % 4 = 1 → timerPeriod b.timer.tac = 16) ∧
      (b.timer.tac.toNat % 4 = 2 → timerPeriod b.timer.tac = 64) ∧
      (b.timer.tac.toNat % 4 = 3 → timerPeriod b.timer.tac = 256)

/-- R262, in closed form, with no reload pending: of a total of `acc + t` T-cycles as many whole periods are counted as leave
more than none, TIMA counts them modulo 256 and an overflow arms the reload; a stopped timer advances the divider alone.
The strict comparison is the spec's own choice (D20). -/
def Obligations.TimerCountsInClosedForm : Prop :=
  ∀ (t : Timer) (cycles : Nat), t.reloadPending = false →
    let total := t.acc + cycles
    let n := (total - 1) / timerPeriod t.tac
    let div := BitVec.ofNat 16 (t.div.toNat + cycles)
    (t.tac.getLsbD 2 = false → t.step cycles = ({ t with div := div }, false)) ∧
      (t.tac.getLsbD 2 = true →
        t.step cycles =
          ({ t with
              div := div
              acc := total - n * timerPeriod t.tac
              tima := BitVec.ofNat 8 (t.tima.toNat + n)
              reloadPending := decide (255 < t.tima.toNat + n)
              reloadCountdown := if 255 < t.tima.toNat + n then 4 else t.reloadCountdown },
            false))

/-- R262, R263, R255, R308: a timer step with a reload pending. The reload fires if the step brings the countdown to 0 or below:
TIMA takes TMA, the Timer request is set and no other IF bit changes; until then nothing is requested. A running timer then
counts in the same step, as without a reload, from TMA or from TIMA, and a second overflow re-arms the reload with its
whole delay; a stopped timer counts nothing. That the countdown runs while the timer is stopped, fires at 0 or below and is
re-armed is the spec's own choice (D20). -/
def Obligations.TimerReloadRequestsTheInterrupt : Prop :=
  ∀ (b : Bus) (cycles : Nat), b.timer.reloadPending = true →
    let r := b.timer
    let due := r.reloadCountdown ≤ cycles
    let start := if due then r.tma.toNat else r.tima.toNat
    let total := r.acc + cycles
    let n := if r.tac.getLsbD 2 then (total - 1) / timerPeriod r.tac else 0
    let stepped :=
      { r with
        div := BitVec.ofNat 16 (r.div.toNat + cycles)
        acc := if r.tac.getLsbD 2 then total - n * timerPeriod r.tac else r.acc
        tima := BitVec.ofNat 8 (start + n)
        reloadPending := decide (¬due ∨ 255 < start + n)
        reloadCountdown := if 255 < start + n then 4 else r.reloadCountdown - cycles }
    (¬due → b.timerStep cycles = { b with timer := stepped }) ∧
      (due →
        let b1 := b.timerStep cycles
        b1 = { b with timer := stepped, mem := b1.mem } ∧
          (∀ j : Nat, b1.iflags.getLsbD j = (b.iflags.getLsbD j || decide (j = 2))) ∧
          ∀ key : Nat, key ≠ 0xFF0F → Memory.read b1.mem key = Memory.read b.mem key)

/-! ### Channel 1 (60_exceptions.md) -/

/-- R276 to R282: the channel's registers through the bus: the read masks, the fields each write sets, the negate quirk, and the
trigger; a write changes nothing of the bus but the channel. The read masks, the trigger's contents and the latch rule of
R284 are the spec's own choices (D23, D25, D26). -/
def Obligations.ChannelRegisters : Prop :=
  ∀ (b : Bus) (v : Byte), b.boot.active = false → b.ch1.Inv →
    let c := b.ch1
    let written := { c with freq := 256 * (v.toNat % 8) + c.freq % 256, nr14 := v &&& 0x40 }
    (b.read 0xFF10 = c.nr10 ||| 0x80 ∧ b.read 0xFF11 = c.nr11 ||| 0x3F ∧ b.read 0xFF12 = c.nr12 ∧ b.read 0xFF13 = 0xFF ∧
      b.read 0xFF14 = c.nr14 ||| 0xBF) ∧
      b.write 0xFF10 v =
        { b with
          ch1 :=
            { c with
              enabled := if c.negate = true ∧ v.toNat / 8 % 2 = 0 ∧ c.calcLatch = true then false else c.enabled
              calcLatch := if c.negate = false ∧ v.toNat / 8 % 2 = 1 then false else c.calcLatch
              period := BitVec.ofNat 3 (v.toNat / 16), negate := decide (v.toNat / 8 % 2 = 1)
              shift := BitVec.ofNat 3 v.toNat, nr10 := v &&& 0x7F } } ∧
      b.write 0xFF11 v = { b with ch1 := { c with duty := BitVec.ofNat 2 (v.toNat / 64), nr11 := v &&& 0xC0 } } ∧
      b.write 0xFF12 v = { b with ch1 := { c with nr12 := v } } ∧
      b.write 0xFF13 v = { b with ch1 := { c with freq := 256 * (c.freq / 256 % 8) + v.toNat } } ∧
      (v.toNat < 128 → b.write 0xFF14 v = { b with ch1 := written }) ∧
      (128 ≤ v.toNat →
        b.write 0xFF14 v =
          { b with
            ch1 :=
              { written with
                enabled := true, timer := (2048 - (written.freq : Int)) * 4, shadow := written.freq
                sweepTimer := if c.period.toNat = 0 then 8 else (c.period.toNat : Int)
                sweepEnabled := decide (c.period.toNat ≠ 0 ∨ c.shift.toNat ≠ 0), calcLatch := false } })

/-- R283, R284, R275, R274: a sweep calculation is the shadow plus or minus itself shifted, clamped at 2048; above 2047 the channel and
the sweep are disabled; with negate set the latch is set. Then one sweep clock, and a sweep step with no clock or one
clock in it. The divider of 32768 T-cycles (R274, D28), and the latch rule, the commit of the clamped value and the
strict comparison (D26), are the spec's own choices. -/
def Obligations.SweepClockAndCalculation : Prop :=
  (∀ c : Channel1,
      let d : Int := c.shadow / 2 ^ c.shift.toNat
      let n : Int := if c.negate then c.shadow - d else c.shadow + d
      (c.sweepResult : Int) = min n 2048 ∧
        c.afterSweepCalc =
          { c with
            calcLatch := if c.negate then true else c.calcLatch
            enabled := if 2047 < n then false else c.enabled
            sweepEnabled := if 2047 < n then false else c.sweepEnabled }) ∧
  (∀ (c : Channel1) (cycles : Nat),
      let reloaded := { c with sweepTimer := if c.period.toNat = 0 then 8 else (c.period.toNat : Int) }
      (c.sweepEnabled = false → c.sweepClock = c) ∧
        (c.sweepEnabled = true → 1 < c.sweepTimer → c.sweepClock = { c with sweepTimer := c.sweepTimer - 1 }) ∧
        (c.sweepEnabled = true → c.sweepTimer ≤ 1 → c.period.toNat = 0 → c.sweepClock = reloaded) ∧
        (c.sweepEnabled = true → c.sweepTimer ≤ 1 → c.period.toNat ≠ 0 → c.shift.toNat = 0 →
          c.sweepClock = reloaded.afterSweepCalc) ∧
        (c.sweepEnabled = true → c.sweepTimer ≤ 1 → c.period.toNat ≠ 0 → c.shift.toNat ≠ 0 →
          c.sweepClock =
            { reloaded.afterSweepCalc with shadow := c.sweepResult, freq := c.sweepResult }.afterSweepCalc) ∧
        (c.sweepAcc + cycles ≤ 32768 → c.sweepCycle cycles = { c with sweepAcc := c.sweepAcc + cycles }) ∧
        (32768 < c.sweepAcc + cycles → c.sweepAcc + cycles ≤ 65536 →
          c.sweepCycle cycles = { c with sweepAcc := c.sweepAcc + cycles - 32768 }.sweepClock))

/-- R272, R270, R273: the duty timer in closed form: it passes as many whole periods as bring it back to 0 or above, advances
the position by that many modulo 8 and latches the bit of the pattern there; a frequency of 0 or 2048 stalls it at 0.
The stall at 2048 is the spec's own choice (D24). -/
def Obligations.DutyTimerInClosedForm : Prop :=
  ∀ (c : Channel1) (cycles : Nat), c.freq ≤ 2048 →
    let late := (cycles : Int) - c.timer
    let period : Int := (2048 - c.freq) * 4
    let n := (late + period - 1) / period
    let pattern := ["00000001", "10000001", "10000111", "01111110"].getD c.duty.toNat ""
    (late ≤ 0 → c.dutyCycle cycles = { c with timer := -late }) ∧
      (0 < late → c.freq = 0 ∨ c.freq = 2048 → c.dutyCycle cycles = { c with timer := 0 }) ∧
      (0 < late → c.freq ≠ 0 → c.freq ≠ 2048 →
        c.dutyCycle cycles =
          { c with
            timer := n * period - late
            dutyPos := BitVec.ofInt 3 (c.dutyPos.toNat + n)
            out := decide (pattern.toList.getD ((c.dutyPos.toNat + n.toNat) % 8) ' ' = '1') }) ∧
      c.sample = if c.enabled then c.out.toNat * c.volume.toNat else 0

end
end

