-- ==== Sys2Proof/Laws/Devices.lean ====
section
/-! SUPPORT. The devices: the loops of the timer, the sweep and the duty timer run until their condition is false, so the
fuel of their definitions never cuts them short. -/

namespace Sys2Proof.Machine

/-! ### The timer's counting loop (R262) -/

theorem timerPeriod_pos (tac : BitVec 3) : 16 ≤ timerPeriod tac := by
  unfold timerPeriod
  split <;> omega

@[simp] theorem Timer.increment_tac (t : Timer) : t.increment.tac = t.tac := by
  unfold Timer.increment; split <;> rfl

@[simp] theorem Timer.increment_acc (t : Timer) : t.increment.acc = t.acc - timerPeriod t.tac := by
  unfold Timer.increment; split <;> rfl

@[simp] theorem Timer.increment_div (t : Timer) : t.increment.div = t.div := by
  unfold Timer.increment; split <;> rfl

@[simp] theorem Timer.increment_tma (t : Timer) : t.increment.tma = t.tma := by
  unfold Timer.increment; split <;> rfl

/-- What the counting loop leaves: the settings and the divider, and an accumulator at most one period. -/
theorem Timer.count_settled {fuel : Nat} {t : Timer} (h : t.acc ≤ fuel) :
    (Timer.count fuel t).tac = t.tac ∧ (Timer.count fuel t).tma = t.tma ∧ (Timer.count fuel t).div = t.div ∧
      (Timer.count fuel t).acc ≤ timerPeriod t.tac := by
  have hp := timerPeriod_pos t.tac
  induction fuel generalizing t with
  | zero => exact ⟨rfl, rfl, rfl, by simp only [Timer.count]; omega⟩
  | succ fuel ih =>
    by_cases hlt : timerPeriod t.tac < t.acc
    · simp only [Timer.count, hlt, if_true]
      have := ih (t := t.increment) (by rw [Timer.increment_acc]; omega) (by rw [Timer.increment_tac]; exact hp)
      simpa using this
    · simp only [Timer.count, hlt, if_false]
      exact ⟨trivial, trivial, trivial, not_lt.mp hlt⟩

/-- The counting loop's equation: one pass, then the loop again, until the accumulator is at most one period. -/
theorem Timer.count_step {fuel : Nat} {t : Timer} (h : t.acc ≤ fuel) :
    Timer.count fuel t = if timerPeriod t.tac < t.acc then Timer.count (fuel - 1) t.increment else t := by
  cases fuel with
  | zero => simp [Timer.count, show ¬timerPeriod t.tac < t.acc by omega]
  | succ fuel => rfl

/-- The reload part of a timer step leaves the counting state, but for TIMA when the reload fires. -/
theorem Timer.reload_acc (t : Timer) (cycles : Nat) : (t.reload cycles).1.acc = t.acc := by
  unfold Timer.reload; dsimp only; split
  · split <;> rfl
  · rfl

/-- A counting pass is pending a reload with the whole delay, or is as it was. -/
theorem Timer.increment_reload (t : Timer) :
    (t.increment.reloadPending = true ∧ t.increment.reloadCountdown = Config.timaReloadDelay) ∨
      (t.increment.reloadPending = t.reloadPending ∧ t.increment.reloadCountdown = t.reloadCountdown) := by
  unfold Timer.increment; split
  · exact .inl ⟨rfl, rfl⟩
  · exact .inr ⟨rfl, rfl⟩

/-- The counting loop keeps the timer's invariant. -/
theorem Timer.count_inv {fuel : Nat} {t : Timer} (h : t.Inv) : (Timer.count fuel t).Inv := by
  induction fuel generalizing t with
  | zero => exact h
  | succ fuel ih =>
    unfold Timer.count
    split
    · refine ih ⟨fun hp => ?_⟩
      rcases t.increment_reload with ⟨-, hc⟩ | ⟨hp', hc⟩
      · exact hc
      · exact hc.trans (h.countdown (hp' ▸ hp))
    · exact h

/-! ### The sweep loop (R275) -/

/-- A sweep calculation leaves the frequency, the registers and the sweep's settings. -/
theorem Channel1.afterSweepCalc_freq (c : Channel1) : c.afterSweepCalc.freq = c.freq := rfl

theorem Channel1.sweepResult_le (c : Channel1) : c.sweepResult ≤ 2048 := min_le_right _ _

theorem sweepReload_range (period : BitVec 3) : 1 ≤ sweepReload period ∧ sweepReload period ≤ 8 := by
  revert period; decide

theorem Channel1.sweepExpire_sweepAcc (c : Channel1) : c.sweepExpire.sweepAcc = c.sweepAcc := by
  unfold Channel1.sweepExpire; dsimp only; split <;> rfl

theorem Channel1.sweepClock_sweepAcc (c : Channel1) : c.sweepClock.sweepAcc = c.sweepAcc := by
  unfold Channel1.sweepClock
  split
  · split
    · dsimp only; split
      · rfl
      · exact Channel1.sweepExpire_sweepAcc _
    · rfl
  · rfl

/-- What the sweep loop leaves: an accumulator at most the divider. -/
theorem Channel1.sweepLoop_settled {fuel : Nat} {c : Channel1} (h : c.sweepAcc ≤ fuel) :
    (Channel1.sweepLoop fuel c).sweepAcc ≤ Config.sweepDivider := by
  induction fuel generalizing c with
  | zero => exact le_trans h (Nat.zero_le _)
  | succ fuel ih =>
    by_cases hlt : Config.sweepDivider < c.sweepAcc
    · simp only [Channel1.sweepLoop, hlt, if_true]
      apply ih
      rw [Channel1.sweepClock_sweepAcc]
      have : 0 < Config.sweepDivider := by decide
      show c.sweepAcc - Config.sweepDivider ≤ fuel
      omega
    · simp only [Channel1.sweepLoop, hlt, if_false]
      exact not_lt.mp hlt

/-! ### The duty timer's loop (R272) -/

/-- What the duty timer's loop leaves: a timer not below 0. -/
theorem Channel1.dutyLoop_settled {fuel : Nat} {c : Channel1} (h : -c.timer ≤ fuel) :
    0 ≤ (Channel1.dutyLoop fuel c).timer := by
  induction fuel generalizing c with
  | zero => simp only [Channel1.dutyLoop]; omega
  | succ fuel ih =>
    by_cases hlt : c.timer < 0
    · simp only [Channel1.dutyLoop, hlt, if_true]
      split
      · exact le_rfl
      · next hs =>
        apply ih
        have : 4 ≤ dutyPeriod c.freq := by
          simp only [not_or] at hs
          unfold dutyPeriod at hs ⊢
          omega
        simp only [Channel1.dutyAdvance]
        omega
    · simp only [Channel1.dutyLoop, hlt, if_false]
      exact not_lt.mp hlt

end Sys2Proof.Machine
end

