-- ==== Sys2Proof/Laws/Memory.lean ====
section
/-! SUPPORT. The laws of a canonical list of bytes: what a read gives after a write, and that every operation keeps the
canonical form. -/

namespace Sys2Proof.Machine

theorem Memory.read_nil (key : Nat) : Memory.read [] key = Memory.unlisted := rfl

theorem Memory.read_cons (cell : Host.Cell) (m : Memory) (key : Nat) :
    Memory.read (cell :: m) key = if cell.1 = key then cell.2 else Memory.read m key := rfl

theorem Memory.read_erase_same (m : Memory) (key : Nat) : Memory.read (Memory.erase m key) key = Memory.unlisted := by
  induction m with
  | nil => rfl
  | cons cell m ih =>
    by_cases h : cell.1 = key
    · simpa [Memory.erase, h] using ih
    · simpa [Memory.erase, h, Memory.read_cons] using ih

theorem Memory.read_erase_other {key key' : Nat} (m : Memory) (h : key' ≠ key) :
    Memory.read (Memory.erase m key) key' = Memory.read m key' := by
  induction m with
  | nil => rfl
  | cons cell m ih =>
    by_cases hc : cell.1 = key
    · have hne : cell.1 ≠ key' := fun e => h (e ▸ hc)
      simpa [Memory.erase, hc, Memory.read_cons, hne, Ne.symm h] using ih
    · have hkeep : Memory.erase (cell :: m) key = cell :: Memory.erase m key := by simp [Memory.erase, hc]
      rw [hkeep, Memory.read_cons, Memory.read_cons, ih]

theorem Memory.read_insert_same (m : Memory) (key : Nat) (v : Byte) (h : ∀ cell ∈ m, cell.1 ≠ key) :
    Memory.read (Memory.insert m key v) key = v := by
  induction m with
  | nil => simp [Memory.insert, Memory.read_cons]
  | cons cell m ih =>
    have hc : cell.1 ≠ key := h cell (by simp)
    by_cases hlt : key < cell.1
    · simp [Memory.insert, hlt, Memory.read_cons]
    · simpa [Memory.insert, hlt, Memory.read_cons, hc] using ih fun c hm => h c (by simp [hm])

theorem Memory.read_insert_other {key key' : Nat} (m : Memory) (v : Byte) (h : key' ≠ key) :
    Memory.read (Memory.insert m key v) key' = Memory.read m key' := by
  induction m with
  | nil => simp [Memory.insert, Memory.read_cons, Ne.symm h]
  | cons cell m ih =>
    by_cases hlt : key < cell.1
    · simp [Memory.insert, hlt, Memory.read_cons, Ne.symm h]
    · simp [Memory.insert, hlt, Memory.read_cons, ih]

theorem Memory.key_ne_of_mem_erase {m : Memory} {key : Nat} {cell : Host.Cell} (h : cell ∈ Memory.erase m key) :
    cell.1 ≠ key := by simpa using (List.mem_filter.mp h).2

theorem Memory.read_write_same (m : Memory) (key : Nat) (v : Byte) : Memory.read (Memory.write m key v) key = v := by
  unfold Memory.write
  split
  · next h => rw [Memory.read_erase_same, h]
  · exact Memory.read_insert_same _ _ _ fun c hc => Memory.key_ne_of_mem_erase hc

theorem Memory.read_write_other {key key' : Nat} (m : Memory) (v : Byte) (h : key' ≠ key) :
    Memory.read (Memory.write m key v) key' = Memory.read m key' := by
  unfold Memory.write
  split
  · exact Memory.read_erase_other m h
  · rw [Memory.read_insert_other _ _ h, Memory.read_erase_other m h]

/-- A read after a write: the value written at its key, the byte as before elsewhere. -/
theorem Memory.read_write (m : Memory) (key key' : Nat) (v : Byte) :
    Memory.read (Memory.write m key v) key' = if key' = key then v else Memory.read m key' := by
  split
  · next h => rw [h, Memory.read_write_same]
  · next h => exact Memory.read_write_other m v h

/-! ### The canonical form -/

theorem Memory.wf_nil : Memory.wf [] := by simp [Memory.wf]

theorem Memory.wf_erase {m : Memory} (h : Memory.wf m) (key : Nat) : Memory.wf (Memory.erase m key) :=
  ⟨h.1.filter _, fun c hc => h.2 c (List.mem_filter.mp hc).1⟩

theorem Memory.mem_insert {m : Memory} {key : Nat} {v : Byte} {cell : Host.Cell} :
    cell ∈ Memory.insert m key v ↔ cell = (key, v) ∨ cell ∈ m := by
  induction m with
  | nil => simp [Memory.insert]
  | cons c m ih =>
    by_cases hlt : key < c.1
    · simp [Memory.insert, hlt]
    · simp [Memory.insert, hlt, ih, or_left_comm]

theorem Memory.wf_insert {m : Memory} (h : Memory.wf m) {key : Nat} {v : Byte} (hv : v ≠ Memory.unlisted)
    (hk : ∀ cell ∈ m, cell.1 ≠ key) : Memory.wf (Memory.insert m key v) := by
  refine ⟨?_, fun c hc => ?_⟩
  · have hp := h.1
    clear h
    induction m with
    | nil => simp [Memory.insert]
    | cons c m ih =>
      rw [List.pairwise_cons] at hp
      by_cases hlt : key < c.1
      · simp only [Memory.insert, hlt, if_true]
        refine List.pairwise_cons.mpr ⟨fun c' hc' => ?_, List.pairwise_cons.mpr hp⟩
        rcases List.mem_cons.mp hc' with rfl | hm
        · exact hlt
        · exact lt_trans hlt (hp.1 c' hm)
      · simp only [Memory.insert, hlt, if_false]
        refine List.pairwise_cons.mpr ⟨fun c' hc' => ?_, ih (fun c' hm => hk c' (by simp [hm])) hp.2⟩
        rcases Memory.mem_insert.mp hc' with rfl | hm
        · exact lt_of_le_of_ne (not_lt.mp hlt) (hk c (by simp))
        · exact hp.1 c' hm
  · rcases Memory.mem_insert.mp hc with rfl | hm
    · exact hv
    · exact h.2 c hm

/-- A write keeps the canonical form. -/
theorem Memory.wf_write {m : Memory} (h : Memory.wf m) (key : Nat) (v : Byte) : Memory.wf (Memory.write m key v) := by
  unfold Memory.write
  split
  · exact Memory.wf_erase h key
  · next hv => exact Memory.wf_insert (Memory.wf_erase h key) hv fun c hc => Memory.key_ne_of_mem_erase hc

/-- The cells after a write: the one written, or one that was there. -/
theorem Memory.mem_write {m : Memory} {key : Nat} {v : Byte} {cell : Host.Cell} (h : cell ∈ Memory.write m key v) :
    cell.1 = key ∨ cell ∈ m := by
  unfold Memory.write at h
  split at h
  · exact .inr (List.mem_filter.mp h).1
  · rcases Memory.mem_insert.mp h with rfl | hm
    · exact .inl rfl
    · exact .inr (List.mem_filter.mp hm).1

/-- The cells of an image are canonical, each with a key of the image. -/
theorem Memory.ofBytes_spec (bytes : List Byte) (base : Nat) :
    Memory.wf (Memory.ofBytes base bytes) ∧
      ∀ cell ∈ Memory.ofBytes base bytes, base ≤ cell.1 ∧ cell.1 < base + bytes.length := by
  induction bytes generalizing base with
  | nil => simp [Memory.ofBytes, Memory.wf]
  | cons v bytes ih =>
    obtain ⟨hwf, hkeys⟩ := ih (base + 1)
    unfold Memory.ofBytes
    split
    · exact ⟨hwf, fun c hc => by have := hkeys c hc; simp only [List.length_cons]; omega⟩
    · next hv =>
      refine ⟨⟨List.pairwise_cons.mpr ⟨fun c hc => (hkeys c hc).1, hwf.1⟩, fun c hc => ?_⟩, fun c hc => ?_⟩
      · rcases List.mem_cons.mp hc with rfl | hm
        · exact hv
        · exact hwf.2 c hm
      · rcases List.mem_cons.mp hc with rfl | hm
        · simp
        · have := hkeys c hm; simp only [List.length_cons]; omega

/-- The byte of an image at an offset inside it. -/
theorem Memory.read_ofBytes (bytes : List Byte) (base key : Nat) :
    Memory.read (Memory.ofBytes base bytes) (base + key) = bytes.getD key Memory.unlisted := by
  induction bytes generalizing base key with
  | nil => rfl
  | cons v bytes ih =>
    unfold Memory.ofBytes
    cases key with
    | zero =>
      split
      · next hv =>
        have hnone : ∀ m : Memory, (∀ c ∈ m, base < c.1) → Memory.read m base = Memory.unlisted := by
          intro m
          induction m with
          | nil => intro _; rfl
          | cons c m ihm =>
            intro hm
            have hlt := hm c (by simp)
            simp [Memory.read_cons, hlt.ne', ihm fun c' hc' => hm c' (by simp [hc'])]
        simpa [hv] using hnone _ fun c hc => ((Memory.ofBytes_spec bytes (base + 1)).2 c hc).1
      · simp [Memory.read_cons]
    | succ key =>
      have := ih (base + 1) key
      rw [show base + 1 + key = base + (key + 1) by omega] at this
      split
      · simpa using this
      · simpa [Memory.read_cons] using this

end Sys2Proof.Machine
end

