-- ==== Sys2Proof/Laws/Bus.lean ====
section
/-! SUPPORT. The bus: what a read leaves, what a store changes, and that every operation of the bus and of its devices keeps
the bus well-formed. -/

namespace Sys2Proof.Machine

/-! ### What a CPU read leaves (R68) -/

@[simp] theorem Bus.afterRead_mem (b : Bus) (a : Word) : (b.afterRead a).mem = b.mem := by
  unfold Bus.afterRead; split <;> [rfl; (split <;> rfl)]

@[simp] theorem Bus.afterRead_timer (b : Bus) (a : Word) : (b.afterRead a).timer = b.timer := by
  unfold Bus.afterRead; split <;> [rfl; (split <;> rfl)]

@[simp] theorem Bus.afterRead_ch1 (b : Bus) (a : Word) : (b.afterRead a).ch1 = b.ch1 := by
  unfold Bus.afterRead; split <;> [rfl; (split <;> rfl)]

@[simp] theorem Bus.afterRead_cart (b : Bus) (a : Word) : (b.afterRead a).cart = b.cart := by
  unfold Bus.afterRead; split <;> [rfl; (split <;> rfl)]

@[simp] theorem Bus.afterRead_boot (b : Bus) (a : Word) : (b.afterRead a).boot = b.boot := by
  unfold Bus.afterRead; split <;> [rfl; (split <;> rfl)]

/-- A read of an address without a side effect leaves the bus as it is. -/
theorem Bus.afterRead_quiet {b : Bus} {a : Word} (h47 : a.toNat ≠ 0xFF47) (hext : isExternal a.toNat = false) :
    b.afterRead a = b := by
  simp [Bus.afterRead, h47, hext]

theorem isExternal_bounds {n : Nat} (h : isExternal n = true) : n = 0xFF00 ∨ (0xFF15 ≤ n ∧ n ≤ 0xFF3F) := by
  simpa [isExternal] using h

/-- A read changes no other byte the CPU reads, but for an external device's next draw. -/
theorem Bus.read_afterRead {b : Bus} {a a' : Word} (h : isExternal a'.toNat = false) :
    (b.afterRead a).read a' = b.read a' := by
  simp [Bus.read, Bus.readIo, h]

/-! ### What a store changes (R54, R60) -/

/-- A timer register's byte does not depend on a write to another timer register (R264, R265). -/
theorem Timer.readReg_writeReg (t : Timer) {n n' : Nat} (v : Byte) (h : n' ≠ n) (hn : 0xFF04 ≤ n ∧ n ≤ 0xFF07)
    (hn' : 0xFF04 ≤ n' ∧ n' ≤ 0xFF07) : (t.writeReg n v).readReg n' = t.readReg n' := by
  unfold Timer.writeReg Timer.readReg
  split_ifs <;> first | omega | rfl

/-- A channel register's byte does not depend on a write to another channel register (R276 to R280). -/
theorem Channel1.readReg_writeReg (c : Channel1) {n n' : Nat} (v : Byte) (h : n' ≠ n) (hn : 0xFF10 ≤ n ∧ n ≤ 0xFF14)
    (hn' : 0xFF10 ≤ n' ∧ n' ≤ 0xFF14) : (c.writeReg n v).readReg n' = c.readReg n' := by
  have h14 : ∀ c : Channel1, (c.writeNr14 v).nr10 = c.nr10 ∧ (c.writeNr14 v).nr11 = c.nr11 ∧
      (c.writeNr14 v).nr12 = c.nr12 := by
    intro c
    unfold Channel1.writeNr14
    dsimp only
    split <;> exact ⟨rfl, rfl, rfl⟩
  obtain ⟨e10, e11, e12⟩ := h14 c
  unfold Channel1.writeReg Channel1.readReg
  split_ifs <;> first | rfl | omega | simp only [e10, e11, e12]

/-- The byte of the I/O region at another address is as before a write to the region. -/
theorem Bus.readIo_writeIo {b : Bus} {a : Word} {n : Nat} (v : Byte) (h : n ≠ a.toNat) :
    (b.writeIo a v).readIo n = b.readIo n := by
  unfold Bus.writeIo
  dsimp only
  by_cases ht : 0xFF04 ≤ a.toNat ∧ a.toNat ≤ 0xFF07
  · rw [if_pos ht]
    unfold Bus.readIo
    by_cases hn : 0xFF04 ≤ n ∧ n ≤ 0xFF07
    · rw [if_pos hn, if_pos hn]
      exact Timer.readReg_writeReg _ v h ht hn
    · rw [if_neg hn, if_neg hn]
  · rw [if_neg ht]
    by_cases hc : 0xFF10 ≤ a.toNat ∧ a.toNat ≤ 0xFF14
    · rw [if_pos hc]
      unfold Bus.readIo
      by_cases hn : 0xFF10 ≤ n ∧ n ≤ 0xFF14
      · rw [if_pos hn, if_pos hn, Channel1.readReg_writeReg _ v h hc hn]
      · rw [if_neg hn, if_neg hn]
    · rw [if_neg hc]
      split
      · rfl
      · split
        · rfl
        · unfold Bus.readIo
          dsimp only
          rw [Memory.read_write_other _ v h]

/-- A write to the I/O region leaves the cartridge, the overlay, and the storage outside the region. -/
theorem Bus.writeIo_rest (b : Bus) (a : Word) (v : Byte) :
    (b.writeIo a v).cart = b.cart ∧ (b.writeIo a v).boot = b.boot ∧
      ∀ n, n ≠ a.toNat → Memory.read (b.writeIo a v).mem n = Memory.read b.mem n := by
  unfold Bus.writeIo
  dsimp only
  split_ifs <;> refine ⟨rfl, rfl, fun n hn => ?_⟩
  case neg => exact Memory.read_write_other _ v hn
  all_goals rfl

/-! ### The regions of a CPU read (R52) -/

/-- The addresses of VRAM, WRAM, OAM and HRAM with IE. -/
def inArrays (n : Nat) : Prop :=
  (0x8000 ≤ n ∧ n ≤ 0x9FFF) ∨ (0xC000 ≤ n ∧ n ≤ 0xDFFF) ∨ (0xFE00 ≤ n ∧ n ≤ 0xFE9F) ∨ 0xFF80 ≤ n

theorem Bus.read_overlay {b : Bus} {a : Word} (h : b.boot.active = true ∧ a.toNat ≤ 0x00FF) :
    b.read a = b.boot.byteAt a.toNat := by
  unfold Bus.read; dsimp only; rw [if_pos h]

theorem Bus.read_rom {b : Bus} {a : Word} (h0 : ¬(b.boot.active = true ∧ a.toNat ≤ 0x00FF)) (h : a.toNat ≤ 0x7FFF) :
    b.read a = b.cart.readRom a.toNat := by
  unfold Bus.read; dsimp only; rw [if_neg h0, if_pos h]

theorem Bus.read_ram {b : Bus} {a : Word} (h : 0xA000 ≤ a.toNat ∧ a.toNat ≤ 0xBFFF) :
    b.read a = b.cart.readRam a.toNat := by
  unfold Bus.read; dsimp only; split_ifs <;> first | omega | rfl

theorem Bus.read_echo {b : Bus} {a : Word} (h : 0xE000 ≤ a.toNat ∧ a.toNat ≤ 0xFDFF) :
    b.read a = Memory.read b.mem (a.toNat - 0x2000) := by
  unfold Bus.read; dsimp only; split_ifs <;> first | omega | rfl

theorem Bus.read_unusable {b : Bus} {a : Word} (h : 0xFEA0 ≤ a.toNat ∧ a.toNat ≤ 0xFEFF) : b.read a = 0x00 := by
  unfold Bus.read; dsimp only; split_ifs <;> first | omega | rfl

theorem Bus.read_io {b : Bus} {a : Word} (h : 0xFF00 ≤ a.toNat ∧ a.toNat ≤ 0xFF7F) : b.read a = b.readIo a.toNat := by
  unfold Bus.read; dsimp only; split_ifs <;> first | omega | rfl

theorem Bus.read_arrays {b : Bus} {a : Word} (h : inArrays a.toNat) : b.read a = Memory.read b.mem a.toNat := by
  unfold inArrays at h
  unfold Bus.read; dsimp only; split_ifs <;> first | omega | rfl

/-- Every address is in one region. -/
theorem region_cases (a : Word) :
    a.toNat ≤ 0x7FFF ∨ (0xA000 ≤ a.toNat ∧ a.toNat ≤ 0xBFFF) ∨ (0xE000 ≤ a.toNat ∧ a.toNat ≤ 0xFDFF) ∨
      (0xFEA0 ≤ a.toNat ∧ a.toNat ≤ 0xFEFF) ∨ (0xFF00 ≤ a.toNat ∧ a.toNat ≤ 0xFF7F) ∨ inArrays a.toNat := by
  unfold inArrays; omega

/-- What a CPU read depends on: the same overlay, cartridge, folded cell and I/O byte give the same byte. -/
theorem Bus.read_congr {b b' : Bus} {a : Word}
    (hboot : b'.boot.active = true ∧ a.toNat ≤ 0x00FF ↔ b.boot.active = true ∧ a.toNat ≤ 0x00FF)
    (hbyte : b'.boot.image = b.boot.image)
    (hrom : a.toNat ≤ 0x7FFF → b'.cart.readRom a.toNat = b.cart.readRom a.toNat)
    (hram : 0xA000 ≤ a.toNat ∧ a.toNat ≤ 0xBFFF → b'.cart.readRam a.toNat = b.cart.readRam a.toNat)
    (hmem : Memory.read b'.mem (echoFold a.toNat) = Memory.read b.mem (echoFold a.toNat))
    (hio : 0xFF00 ≤ a.toNat ∧ a.toNat ≤ 0xFF7F → b'.readIo a.toNat = b.readIo a.toNat) :
    b'.read a = b.read a := by
  by_cases h0 : b.boot.active = true ∧ a.toNat ≤ 0x00FF
  · rw [Bus.read_overlay h0, Bus.read_overlay (hboot.mpr h0)]
    unfold BootOverlay.byteAt; rw [hbyte]
  have h0' : ¬(b'.boot.active = true ∧ a.toNat ≤ 0x00FF) := fun h => h0 (hboot.mp h)
  rcases region_cases a with h | h | h | h | h | h
  · rw [Bus.read_rom h0 h, Bus.read_rom h0' h, hrom h]
  · rw [Bus.read_ram h, Bus.read_ram h, hram h]
  · rw [Bus.read_echo h, Bus.read_echo h]
    unfold echoFold at hmem
    rwa [if_pos h] at hmem
  · rw [Bus.read_unusable h, Bus.read_unusable h]
  · rw [Bus.read_io h, Bus.read_io h, hio h]
  · rw [Bus.read_arrays h, Bus.read_arrays h]
    unfold inArrays at h
    unfold echoFold at hmem
    rwa [if_neg (by omega)] at hmem

/-! ### A store's frame -/

/-- A write of the bus-owned storage: a byte whose folded address is another reads as before. -/
theorem Bus.read_memWrite {b : Bus} {a' : Word} {key : Nat} (v : Byte) (h : echoFold a'.toNat ≠ key) :
    ({ b with mem := Memory.write b.mem key v } : Bus).read a' = b.read a' := by
  refine Bus.read_congr Iff.rfl rfl (fun _ => rfl) (fun _ => rfl) (Memory.read_write_other _ v h) fun hio => ?_
  unfold echoFold at h
  rw [if_neg (by omega)] at h
  unfold Bus.readIo
  dsimp only
  rw [Memory.read_write_other b.mem v h]

/-- A change of the cartridge that keeps its ROM image leaves every byte outside the two banked windows. -/
theorem Bus.read_cart {b : Bus} {c : Cartridge} {a' : Word} (hc : c.rom = b.cart.rom)
    (h : ¬((0x4000 ≤ a'.toNat ∧ a'.toNat ≤ 0x7FFF) ∨ (0xA000 ≤ a'.toNat ∧ a'.toNat ≤ 0xBFFF))) :
    ({ b with cart := c } : Bus).read a' = b.read a' := by
  refine Bus.read_congr Iff.rfl rfl (fun h7 => ?_) (fun hr => absurd (Or.inr hr) h) rfl fun _ => rfl
  unfold Cartridge.readRom Cartridge.romIndex
  dsimp only
  rw [hc, if_pos (show a'.toNat ≤ 0x3FFF by omega), if_pos (show a'.toNat ≤ 0x3FFF by omega)]

theorem Cartridge.writeMbc1_rom (c : Cartridge) (n : Nat) (v : Byte) : (c.writeMbc1 n v).rom = c.rom := by
  unfold Cartridge.writeMbc1; split_ifs <;> rfl

theorem Cartridge.writeMbc3_rom (c : Cartridge) (n : Nat) (v : Byte) : (c.writeMbc3 n v).rom = c.rom := by
  unfold Cartridge.writeMbc3; split_ifs <;> rfl

/-- Another byte of the RAM window reads as before a write to the window (R84). -/
theorem Cartridge.readRam_writeRam (c : Cartridge) {n n' : Nat} (v : Byte) (h : n' ≠ n) (hn : 0xA000 ≤ n)
    (hn' : 0xA000 ≤ n') : (c.writeRam n v).readRam n' = c.readRam n' := by
  unfold Cartridge.writeRam
  split
  · next hr =>
    have hr' : ∀ m, ({ c with ram := m } : Cartridge).readRam n' = Memory.read m (c.ramIndex n') := by
      intro m
      unfold Cartridge.readRam
      exact if_pos hr
    rw [hr', Memory.read_write_other c.ram v (by unfold Cartridge.ramIndex; omega)]
    exact (hr' c.ram).symm
  · rfl

/-- A store's frame: a byte that the store does not reach reads as before. -/
theorem Bus.read_write_other {b : Bus} {a a' : Word} (v : Byte) (h : ¬b.storeReaches a a') :
    (b.write a v).read a' = b.read a' := by
  have ha : a.toNat < 0x10000 := a.isLt
  unfold Bus.storeReaches at h
  unfold Bus.write
  dsimp only
  by_cases hx : b.boot.active = true ∧ a = b.boot.offAddr
  · rw [if_pos hx] at h ⊢
    refine Bus.read_congr ⟨fun hc => absurd hc.2 h, fun hc => absurd hc.2 h⟩ rfl (fun _ => rfl) (fun _ => rfl) rfl
      fun _ => rfl
  rw [if_neg hx] at h ⊢
  by_cases hrom : a.toNat ≤ 0x7FFF
  · rw [if_pos hrom] at h ⊢
    unfold Bus.writeRom
    split
    · rfl
    · exact Bus.read_cart (Cartridge.writeMbc1_rom _ _ _) h
    · exact Bus.read_cart (Cartridge.writeMbc3_rom _ _ _) h
  rw [if_neg hrom] at h ⊢
  have hmem : ∀ key, key = echoFold a.toNat → ({ b with mem := Memory.write b.mem key v } : Bus).read a' = b.read a' :=
    fun key hk => Bus.read_memWrite v (hk ▸ h)
  have hne : a'.toNat ≠ a.toNat := fun e => h (by rw [e])
  by_cases h9 : a.toNat ≤ 0x9FFF
  · rw [if_pos h9]; exact hmem _ (by unfold echoFold; rw [if_neg (by omega)])
  rw [if_neg h9]
  by_cases hB : a.toNat ≤ 0xBFFF
  · rw [if_pos hB]
    refine Bus.read_congr Iff.rfl rfl (fun _ => ?_) (fun hr => Cartridge.readRam_writeRam _ v hne (by omega) hr.1) rfl
      fun _ => rfl
    unfold Cartridge.writeRam; split <;> rfl
  rw [if_neg hB]
  by_cases hD : a.toNat ≤ 0xDFFF
  · rw [if_pos hD]; exact hmem _ (by unfold echoFold; rw [if_neg (by omega)])
  rw [if_neg hD]
  by_cases hF : a.toNat ≤ 0xFDFF
  · rw [if_pos hF]; exact hmem _ (by unfold echoFold; rw [if_pos (by omega)])
  rw [if_neg hF]
  by_cases hO : a.toNat ≤ 0xFE9F
  · rw [if_pos hO]; exact hmem _ (by unfold echoFold; rw [if_neg (by omega)])
  rw [if_neg hO]
  by_cases hU : a.toNat ≤ 0xFEFF
  · rw [if_pos hU]
  rw [if_neg hU]
  by_cases hI : a.toNat ≤ 0xFF7F
  · rw [if_pos hI]
    obtain ⟨hcart, hboot, hkeep⟩ := Bus.writeIo_rest b a v
    have hfold : echoFold a.toNat = a.toNat := by unfold echoFold; rw [if_neg (by omega)]
    exact Bus.read_congr (by rw [hboot]) (by rw [hboot]) (fun _ => by rw [hcart]) (fun _ => by rw [hcart])
      (hkeep _ fun e => h (e.trans hfold.symm)) fun _ => Bus.readIo_writeIo v hne
  · rw [if_neg hI]; exact hmem _ (by unfold echoFold; rw [if_neg (by omega)])

/-- A store to the bus-owned arrays writes the cell of the folded address. -/
theorem Bus.write_arrays {b : Bus} {a : Word} (v : Byte) (hx : ¬(b.boot.active = true ∧ a = b.boot.offAddr))
    (h : inArrays a.toNat ∨ (0xE000 ≤ a.toNat ∧ a.toNat ≤ 0xFDFF)) :
    b.write a v = { b with mem := Memory.write b.mem (echoFold a.toNat) v } := by
  unfold inArrays at h
  unfold Bus.write echoFold
  dsimp only
  rw [if_neg hx]
  split_ifs <;> first | omega | rfl

end Sys2Proof.Machine
end

