-- ==== Sys2Proof/Laws/State.lean ====
section
/-! SUPPORT. One lemma per field per update of the state, and the registers' reads after writes: no later proof unfolds a
record update. -/

namespace Sys2Proof.Machine

/-! ### The fields of the state after each shared operation -/

@[simp] theorem State.setReg_regs (s : State) (r : Reg8) (v : Byte) : (s.setReg r v).regs = s.regs.set r v := rfl
@[simp] theorem State.setReg_pc (s : State) (r : Reg8) (v : Byte) : (s.setReg r v).pc = s.pc := rfl
@[simp] theorem State.setReg_sp (s : State) (r : Reg8) (v : Byte) : (s.setReg r v).sp = s.sp := rfl
@[simp] theorem State.setReg_ime (s : State) (r : Reg8) (v : Byte) : (s.setReg r v).ime = s.ime := rfl
@[simp] theorem State.setReg_halted (s : State) (r : Reg8) (v : Byte) : (s.setReg r v).halted = s.halted := rfl
@[simp] theorem State.setReg_haltBug (s : State) (r : Reg8) (v : Byte) : (s.setReg r v).haltBug = s.haltBug := rfl
@[simp] theorem State.setReg_cycles (s : State) (r : Reg8) (v : Byte) : (s.setReg r v).cycles = s.cycles := rfl
@[simp] theorem State.setReg_bus (s : State) (r : Reg8) (v : Byte) : (s.setReg r v).bus = s.bus := rfl
@[simp] theorem State.setReg_stopMode (s : State) (r : Reg8) (v : Byte) : (s.setReg r v).stopMode = s.stopMode := rfl
@[simp] theorem State.setReg_stop (s : State) (r : Reg8) (v : Byte) : (s.setReg r v).stop = s.stop := rfl

@[simp] theorem State.setHl_regs (s : State) (v : Word) : (s.setHl v).regs = s.regs.setHl v := rfl
@[simp] theorem State.setHl_pc (s : State) (v : Word) : (s.setHl v).pc = s.pc := rfl
@[simp] theorem State.setHl_sp (s : State) (v : Word) : (s.setHl v).sp = s.sp := rfl
@[simp] theorem State.setHl_ime (s : State) (v : Word) : (s.setHl v).ime = s.ime := rfl
@[simp] theorem State.setHl_halted (s : State) (v : Word) : (s.setHl v).halted = s.halted := rfl
@[simp] theorem State.setHl_haltBug (s : State) (v : Word) : (s.setHl v).haltBug = s.haltBug := rfl
@[simp] theorem State.setHl_cycles (s : State) (v : Word) : (s.setHl v).cycles = s.cycles := rfl
@[simp] theorem State.setHl_bus (s : State) (v : Word) : (s.setHl v).bus = s.bus := rfl
@[simp] theorem State.setHl_stopMode (s : State) (v : Word) : (s.setHl v).stopMode = s.stopMode := rfl
@[simp] theorem State.setHl_stop (s : State) (v : Word) : (s.setHl v).stop = s.stop := rfl

@[simp] theorem State.putFlags_regs (s : State) (z n h c : Option Bool) : (s.putFlags z n h c).regs = s.regs.putFlags z n h c := rfl
@[simp] theorem State.putFlags_pc (s : State) (z n h c : Option Bool) : (s.putFlags z n h c).pc = s.pc := rfl
@[simp] theorem State.putFlags_sp (s : State) (z n h c : Option Bool) : (s.putFlags z n h c).sp = s.sp := rfl
@[simp] theorem State.putFlags_ime (s : State) (z n h c : Option Bool) : (s.putFlags z n h c).ime = s.ime := rfl
@[simp] theorem State.putFlags_halted (s : State) (z n h c : Option Bool) : (s.putFlags z n h c).halted = s.halted := rfl
@[simp] theorem State.putFlags_haltBug (s : State) (z n h c : Option Bool) : (s.putFlags z n h c).haltBug = s.haltBug := rfl
@[simp] theorem State.putFlags_cycles (s : State) (z n h c : Option Bool) : (s.putFlags z n h c).cycles = s.cycles := rfl
@[simp] theorem State.putFlags_bus (s : State) (z n h c : Option Bool) : (s.putFlags z n h c).bus = s.bus := rfl
@[simp] theorem State.putFlags_stopMode (s : State) (z n h c : Option Bool) : (s.putFlags z n h c).stopMode = s.stopMode := rfl
@[simp] theorem State.putFlags_stop (s : State) (z n h c : Option Bool) : (s.putFlags z n h c).stop = s.stop := rfl

@[simp] theorem State.afterRead_regs (s : State) (a : Word) : (s.afterRead a).regs = s.regs := rfl
@[simp] theorem State.afterRead_pc (s : State) (a : Word) : (s.afterRead a).pc = s.pc := rfl
@[simp] theorem State.afterRead_sp (s : State) (a : Word) : (s.afterRead a).sp = s.sp := rfl
@[simp] theorem State.afterRead_ime (s : State) (a : Word) : (s.afterRead a).ime = s.ime := rfl
@[simp] theorem State.afterRead_halted (s : State) (a : Word) : (s.afterRead a).halted = s.halted := rfl
@[simp] theorem State.afterRead_haltBug (s : State) (a : Word) : (s.afterRead a).haltBug = s.haltBug := rfl
@[simp] theorem State.afterRead_cycles (s : State) (a : Word) : (s.afterRead a).cycles = s.cycles := rfl
@[simp] theorem State.afterRead_bus (s : State) (a : Word) : (s.afterRead a).bus = s.bus.afterRead a := rfl
@[simp] theorem State.afterRead_stopMode (s : State) (a : Word) : (s.afterRead a).stopMode = s.stopMode := rfl
@[simp] theorem State.afterRead_stop (s : State) (a : Word) : (s.afterRead a).stop = s.stop := rfl

@[simp] theorem State.store_regs (s : State) (a : Word) (v : Byte) : (s.store a v).regs = s.regs := rfl
@[simp] theorem State.store_pc (s : State) (a : Word) (v : Byte) : (s.store a v).pc = s.pc := rfl
@[simp] theorem State.store_sp (s : State) (a : Word) (v : Byte) : (s.store a v).sp = s.sp := rfl
@[simp] theorem State.store_ime (s : State) (a : Word) (v : Byte) : (s.store a v).ime = s.ime := rfl
@[simp] theorem State.store_halted (s : State) (a : Word) (v : Byte) : (s.store a v).halted = s.halted := rfl
@[simp] theorem State.store_haltBug (s : State) (a : Word) (v : Byte) : (s.store a v).haltBug = s.haltBug := rfl
@[simp] theorem State.store_cycles (s : State) (a : Word) (v : Byte) : (s.store a v).cycles = s.cycles := rfl
@[simp] theorem State.store_bus (s : State) (a : Word) (v : Byte) : (s.store a v).bus = s.bus.write a v := rfl
@[simp] theorem State.store_stopMode (s : State) (a : Word) (v : Byte) : (s.store a v).stopMode = s.stopMode := rfl
@[simp] theorem State.store_stop (s : State) (a : Word) (v : Byte) : (s.store a v).stop = s.stop := rfl

@[simp] theorem State.push8_regs (s : State) (v : Byte) : (s.push8 v).regs = s.regs := rfl
@[simp] theorem State.push8_pc (s : State) (v : Byte) : (s.push8 v).pc = s.pc := rfl
@[simp] theorem State.push8_sp (s : State) (v : Byte) : (s.push8 v).sp = s.sp - 1 := rfl
@[simp] theorem State.push8_ime (s : State) (v : Byte) : (s.push8 v).ime = s.ime := rfl
@[simp] theorem State.push8_halted (s : State) (v : Byte) : (s.push8 v).halted = s.halted := rfl
@[simp] theorem State.push8_haltBug (s : State) (v : Byte) : (s.push8 v).haltBug = s.haltBug := rfl
@[simp] theorem State.push8_cycles (s : State) (v : Byte) : (s.push8 v).cycles = s.cycles := rfl
@[simp] theorem State.push8_bus (s : State) (v : Byte) : (s.push8 v).bus = s.bus.write (s.sp - 1) v := rfl
@[simp] theorem State.push8_stopMode (s : State) (v : Byte) : (s.push8 v).stopMode = s.stopMode := rfl
@[simp] theorem State.push8_stop (s : State) (v : Byte) : (s.push8 v).stop = s.stop := rfl

@[simp] theorem State.push16_regs (s : State) (v : Word) : (s.push16 v).regs = s.regs := rfl
@[simp] theorem State.push16_pc (s : State) (v : Word) : (s.push16 v).pc = s.pc := rfl
@[simp] theorem State.push16_sp (s : State) (v : Word) : (s.push16 v).sp = s.sp - 1 - 1 := rfl
@[simp] theorem State.push16_ime (s : State) (v : Word) : (s.push16 v).ime = s.ime := rfl
@[simp] theorem State.push16_halted (s : State) (v : Word) : (s.push16 v).halted = s.halted := rfl
@[simp] theorem State.push16_haltBug (s : State) (v : Word) : (s.push16 v).haltBug = s.haltBug := rfl
@[simp] theorem State.push16_cycles (s : State) (v : Word) : (s.push16 v).cycles = s.cycles := rfl
@[simp] theorem State.push16_bus (s : State) (v : Word) : (s.push16 v).bus = (s.bus.write (s.sp - 1) (highByte v)).write (s.sp - 1 - 1) (lowByte v) := rfl
@[simp] theorem State.push16_stopMode (s : State) (v : Word) : (s.push16 v).stopMode = s.stopMode := rfl
@[simp] theorem State.push16_stop (s : State) (v : Word) : (s.push16 v).stop = s.stop := rfl

@[simp] theorem State.afterPop8_regs (s : State) : (s.afterPop8).regs = s.regs := rfl
@[simp] theorem State.afterPop8_pc (s : State) : (s.afterPop8).pc = s.pc := rfl
@[simp] theorem State.afterPop8_sp (s : State) : (s.afterPop8).sp = s.sp + 1 := rfl
@[simp] theorem State.afterPop8_ime (s : State) : (s.afterPop8).ime = s.ime := rfl
@[simp] theorem State.afterPop8_halted (s : State) : (s.afterPop8).halted = s.halted := rfl
@[simp] theorem State.afterPop8_haltBug (s : State) : (s.afterPop8).haltBug = s.haltBug := rfl
@[simp] theorem State.afterPop8_cycles (s : State) : (s.afterPop8).cycles = s.cycles := rfl
@[simp] theorem State.afterPop8_bus (s : State) : (s.afterPop8).bus = s.bus.afterRead s.sp := rfl
@[simp] theorem State.afterPop8_stopMode (s : State) : (s.afterPop8).stopMode = s.stopMode := rfl
@[simp] theorem State.afterPop8_stop (s : State) : (s.afterPop8).stop = s.stop := rfl

@[simp] theorem State.afterPop16_regs (s : State) : (s.afterPop16).regs = s.regs := rfl
@[simp] theorem State.afterPop16_pc (s : State) : (s.afterPop16).pc = s.pc := rfl
@[simp] theorem State.afterPop16_sp (s : State) : (s.afterPop16).sp = s.sp + 1 + 1 := rfl
@[simp] theorem State.afterPop16_ime (s : State) : (s.afterPop16).ime = s.ime := rfl
@[simp] theorem State.afterPop16_halted (s : State) : (s.afterPop16).halted = s.halted := rfl
@[simp] theorem State.afterPop16_haltBug (s : State) : (s.afterPop16).haltBug = s.haltBug := rfl
@[simp] theorem State.afterPop16_cycles (s : State) : (s.afterPop16).cycles = s.cycles := rfl
@[simp] theorem State.afterPop16_bus (s : State) : (s.afterPop16).bus = (s.bus.afterRead s.sp).afterRead (s.sp + 1) := rfl
@[simp] theorem State.afterPop16_stopMode (s : State) : (s.afterPop16).stopMode = s.stopMode := rfl
@[simp] theorem State.afterPop16_stop (s : State) : (s.afterPop16).stop = s.stop := rfl

@[simp] theorem State.charge_regs (s : State) (cost : Nat) : (s.charge cost).regs = s.regs := rfl
@[simp] theorem State.charge_pc (s : State) (cost : Nat) : (s.charge cost).pc = s.pc := rfl
@[simp] theorem State.charge_sp (s : State) (cost : Nat) : (s.charge cost).sp = s.sp := rfl
@[simp] theorem State.charge_ime (s : State) (cost : Nat) : (s.charge cost).ime = s.ime := rfl
@[simp] theorem State.charge_halted (s : State) (cost : Nat) : (s.charge cost).halted = s.halted := rfl
@[simp] theorem State.charge_haltBug (s : State) (cost : Nat) : (s.charge cost).haltBug = s.haltBug := rfl
@[simp] theorem State.charge_cycles (s : State) (cost : Nat) : (s.charge cost).cycles = s.cycles + cost := rfl
@[simp] theorem State.charge_bus (s : State) (cost : Nat) : (s.charge cost).bus = s.bus := rfl
@[simp] theorem State.charge_stopMode (s : State) (cost : Nat) : (s.charge cost).stopMode = s.stopMode := rfl
@[simp] theorem State.charge_stop (s : State) (cost : Nat) : (s.charge cost).stop = s.stop := rfl

@[simp] theorem State.consumeHaltBug_regs (s : State) : (s.consumeHaltBug).regs = s.regs := rfl
@[simp] theorem State.consumeHaltBug_pc (s : State) : (s.consumeHaltBug).pc = s.pc := rfl
@[simp] theorem State.consumeHaltBug_sp (s : State) : (s.consumeHaltBug).sp = s.sp := rfl
@[simp] theorem State.consumeHaltBug_ime (s : State) : (s.consumeHaltBug).ime = s.ime := rfl
@[simp] theorem State.consumeHaltBug_halted (s : State) : (s.consumeHaltBug).halted = s.halted := rfl
@[simp] theorem State.consumeHaltBug_haltBug (s : State) : (s.consumeHaltBug).haltBug = false := rfl
@[simp] theorem State.consumeHaltBug_cycles (s : State) : (s.consumeHaltBug).cycles = s.cycles := rfl
@[simp] theorem State.consumeHaltBug_bus (s : State) : (s.consumeHaltBug).bus = s.bus := rfl
@[simp] theorem State.consumeHaltBug_stopMode (s : State) : (s.consumeHaltBug).stopMode = s.stopMode := rfl
@[simp] theorem State.consumeHaltBug_stop (s : State) : (s.consumeHaltBug).stop = s.stop := rfl

@[simp] theorem State.advancePc_regs (s : State) (bug : Bool) (len : Nat) : (s.advancePc bug len).regs = s.regs := by cases bug <;> rfl
@[simp] theorem State.advancePc_pc (s : State) (bug : Bool) (len : Nat) : (s.advancePc bug len).pc = if bug then s.pc else s.pc + BitVec.ofNat 16 len := by cases bug <;> rfl
@[simp] theorem State.advancePc_sp (s : State) (bug : Bool) (len : Nat) : (s.advancePc bug len).sp = s.sp := by cases bug <;> rfl
@[simp] theorem State.advancePc_ime (s : State) (bug : Bool) (len : Nat) : (s.advancePc bug len).ime = s.ime := by cases bug <;> rfl
@[simp] theorem State.advancePc_halted (s : State) (bug : Bool) (len : Nat) : (s.advancePc bug len).halted = s.halted := by cases bug <;> rfl
@[simp] theorem State.advancePc_haltBug (s : State) (bug : Bool) (len : Nat) : (s.advancePc bug len).haltBug = s.haltBug := by cases bug <;> rfl
@[simp] theorem State.advancePc_cycles (s : State) (bug : Bool) (len : Nat) : (s.advancePc bug len).cycles = s.cycles := by cases bug <;> rfl
@[simp] theorem State.advancePc_bus (s : State) (bug : Bool) (len : Nat) : (s.advancePc bug len).bus = s.bus := by cases bug <;> rfl
@[simp] theorem State.advancePc_stopMode (s : State) (bug : Bool) (len : Nat) : (s.advancePc bug len).stopMode = s.stopMode := by cases bug <;> rfl
@[simp] theorem State.advancePc_stop (s : State) (bug : Bool) (len : Nat) : (s.advancePc bug len).stop = s.stop := by cases bug <;> rfl

@[simp] theorem State.setPair_pc (s : State) (p : Pair) (v : Word) : (s.setPair p v).pc = s.pc := by cases p <;> rfl
@[simp] theorem State.setPair_ime (s : State) (p : Pair) (v : Word) : (s.setPair p v).ime = s.ime := by cases p <;> rfl
@[simp] theorem State.setPair_halted (s : State) (p : Pair) (v : Word) : (s.setPair p v).halted = s.halted := by cases p <;> rfl
@[simp] theorem State.setPair_haltBug (s : State) (p : Pair) (v : Word) : (s.setPair p v).haltBug = s.haltBug := by cases p <;> rfl
@[simp] theorem State.setPair_cycles (s : State) (p : Pair) (v : Word) : (s.setPair p v).cycles = s.cycles := by cases p <;> rfl
@[simp] theorem State.setPair_bus (s : State) (p : Pair) (v : Word) : (s.setPair p v).bus = s.bus := by cases p <;> rfl
@[simp] theorem State.setPair_stopMode (s : State) (p : Pair) (v : Word) : (s.setPair p v).stopMode = s.stopMode := by cases p <;> rfl
@[simp] theorem State.setPair_stop (s : State) (p : Pair) (v : Word) : (s.setPair p v).stop = s.stop := by cases p <;> rfl

@[simp] theorem State.setStackPair_pc (s : State) (p : StackPair) (v : Word) : (s.setStackPair p v).pc = s.pc := by cases p <;> rfl
@[simp] theorem State.setStackPair_sp (s : State) (p : StackPair) (v : Word) : (s.setStackPair p v).sp = s.sp := by cases p <;> rfl
@[simp] theorem State.setStackPair_ime (s : State) (p : StackPair) (v : Word) : (s.setStackPair p v).ime = s.ime := by cases p <;> rfl
@[simp] theorem State.setStackPair_halted (s : State) (p : StackPair) (v : Word) : (s.setStackPair p v).halted = s.halted := by cases p <;> rfl
@[simp] theorem State.setStackPair_haltBug (s : State) (p : StackPair) (v : Word) : (s.setStackPair p v).haltBug = s.haltBug := by cases p <;> rfl
@[simp] theorem State.setStackPair_cycles (s : State) (p : StackPair) (v : Word) : (s.setStackPair p v).cycles = s.cycles := by cases p <;> rfl
@[simp] theorem State.setStackPair_bus (s : State) (p : StackPair) (v : Word) : (s.setStackPair p v).bus = s.bus := by cases p <;> rfl
@[simp] theorem State.setStackPair_stopMode (s : State) (p : StackPair) (v : Word) : (s.setStackPair p v).stopMode = s.stopMode := by cases p <;> rfl
@[simp] theorem State.setStackPair_stop (s : State) (p : StackPair) (v : Word) : (s.setStackPair p v).stop = s.stop := by cases p <;> rfl

@[simp] theorem State.afterTarget_regs (s : State) (t : Target) : (s.afterTarget t).regs = s.regs := by cases t <;> rfl
@[simp] theorem State.afterTarget_pc (s : State) (t : Target) : (s.afterTarget t).pc = s.pc := by cases t <;> rfl
@[simp] theorem State.afterTarget_sp (s : State) (t : Target) : (s.afterTarget t).sp = s.sp := by cases t <;> rfl
@[simp] theorem State.afterTarget_ime (s : State) (t : Target) : (s.afterTarget t).ime = s.ime := by cases t <;> rfl
@[simp] theorem State.afterTarget_halted (s : State) (t : Target) : (s.afterTarget t).halted = s.halted := by cases t <;> rfl
@[simp] theorem State.afterTarget_haltBug (s : State) (t : Target) : (s.afterTarget t).haltBug = s.haltBug := by cases t <;> rfl
@[simp] theorem State.afterTarget_cycles (s : State) (t : Target) : (s.afterTarget t).cycles = s.cycles := by cases t <;> rfl
@[simp] theorem State.afterTarget_stopMode (s : State) (t : Target) : (s.afterTarget t).stopMode = s.stopMode := by cases t <;> rfl
@[simp] theorem State.afterTarget_stop (s : State) (t : Target) : (s.afterTarget t).stop = s.stop := by cases t <;> rfl

@[simp] theorem State.putTarget_pc (s : State) (t : Target) (v : Byte) : (s.putTarget t v).pc = s.pc := by cases t <;> rfl
@[simp] theorem State.putTarget_sp (s : State) (t : Target) (v : Byte) : (s.putTarget t v).sp = s.sp := by cases t <;> rfl
@[simp] theorem State.putTarget_ime (s : State) (t : Target) (v : Byte) : (s.putTarget t v).ime = s.ime := by cases t <;> rfl
@[simp] theorem State.putTarget_halted (s : State) (t : Target) (v : Byte) : (s.putTarget t v).halted = s.halted := by cases t <;> rfl
@[simp] theorem State.putTarget_haltBug (s : State) (t : Target) (v : Byte) : (s.putTarget t v).haltBug = s.haltBug := by cases t <;> rfl
@[simp] theorem State.putTarget_cycles (s : State) (t : Target) (v : Byte) : (s.putTarget t v).cycles = s.cycles := by cases t <;> rfl
@[simp] theorem State.putTarget_stopMode (s : State) (t : Target) (v : Byte) : (s.putTarget t v).stopMode = s.stopMode := by cases t <;> rfl
@[simp] theorem State.putTarget_stop (s : State) (t : Target) (v : Byte) : (s.putTarget t v).stop = s.stop := by cases t <;> rfl

@[simp] theorem State.afterSrc_regs (s : State) (src : AluSrc) : (s.afterSrc src).regs = s.regs := by cases src <;> rfl
@[simp] theorem State.afterSrc_pc (s : State) (src : AluSrc) : (s.afterSrc src).pc = s.pc := by cases src <;> rfl
@[simp] theorem State.afterSrc_sp (s : State) (src : AluSrc) : (s.afterSrc src).sp = s.sp := by cases src <;> rfl
@[simp] theorem State.afterSrc_ime (s : State) (src : AluSrc) : (s.afterSrc src).ime = s.ime := by cases src <;> rfl
@[simp] theorem State.afterSrc_halted (s : State) (src : AluSrc) : (s.afterSrc src).halted = s.halted := by cases src <;> rfl
@[simp] theorem State.afterSrc_haltBug (s : State) (src : AluSrc) : (s.afterSrc src).haltBug = s.haltBug := by cases src <;> rfl
@[simp] theorem State.afterSrc_cycles (s : State) (src : AluSrc) : (s.afterSrc src).cycles = s.cycles := by cases src <;> rfl
@[simp] theorem State.afterSrc_stopMode (s : State) (src : AluSrc) : (s.afterSrc src).stopMode = s.stopMode := by cases src <;> rfl
@[simp] theorem State.afterSrc_stop (s : State) (src : AluSrc) : (s.afterSrc src).stop = s.stop := by cases src <;> rfl

@[simp] theorem State.serviceInterrupt_regs (s : State) (k : IrqKind) : (s.serviceInterrupt k).regs = s.regs := rfl
@[simp] theorem State.serviceInterrupt_pc (s : State) (k : IrqKind) : (s.serviceInterrupt k).pc = k.vector := rfl
@[simp] theorem State.serviceInterrupt_sp (s : State) (k : IrqKind) : (s.serviceInterrupt k).sp = s.sp - 1 - 1 := rfl
@[simp] theorem State.serviceInterrupt_ime (s : State) (k : IrqKind) : (s.serviceInterrupt k).ime = false := rfl
@[simp] theorem State.serviceInterrupt_halted (s : State) (k : IrqKind) : (s.serviceInterrupt k).halted = false := rfl
@[simp] theorem State.serviceInterrupt_haltBug (s : State) (k : IrqKind) : (s.serviceInterrupt k).haltBug = s.haltBug := rfl
@[simp] theorem State.serviceInterrupt_cycles (s : State) (k : IrqKind) : (s.serviceInterrupt k).cycles = s.cycles + 5 := rfl
@[simp] theorem State.serviceInterrupt_bus (s : State) (k : IrqKind) : (s.serviceInterrupt k).bus = ((s.bus.clearInterrupt k).write (s.sp - 1) (highByte s.pc)).write (s.sp - 1 - 1) (lowByte s.pc) := rfl
@[simp] theorem State.serviceInterrupt_stopMode (s : State) (k : IrqKind) : (s.serviceInterrupt k).stopMode = s.stopMode := rfl
@[simp] theorem State.serviceInterrupt_stop (s : State) (k : IrqKind) : (s.serviceInterrupt k).stop = s.stop := rfl

@[simp] theorem State.retired_regs (s : State) (len cost : Nat) : (s.retired len cost).regs = s.regs := rfl
@[simp] theorem State.retired_pc (s : State) (len cost : Nat) : (s.retired len cost).pc = if s.haltBug then s.pc else s.pc + BitVec.ofNat 16 len := rfl
@[simp] theorem State.retired_sp (s : State) (len cost : Nat) : (s.retired len cost).sp = s.sp := rfl
@[simp] theorem State.retired_ime (s : State) (len cost : Nat) : (s.retired len cost).ime = s.ime := rfl
@[simp] theorem State.retired_halted (s : State) (len cost : Nat) : (s.retired len cost).halted = s.halted := rfl
@[simp] theorem State.retired_haltBug (s : State) (len cost : Nat) : (s.retired len cost).haltBug = false := rfl
@[simp] theorem State.retired_cycles (s : State) (len cost : Nat) : (s.retired len cost).cycles = s.cycles + cost := rfl
@[simp] theorem State.retired_bus (s : State) (len cost : Nat) : (s.retired len cost).bus = s.bus := rfl
@[simp] theorem State.retired_stopMode (s : State) (len cost : Nat) : (s.retired len cost).stopMode = s.stopMode := rfl
@[simp] theorem State.retired_stop (s : State) (len cost : Nat) : (s.retired len cost).stop = s.stop := rfl

@[simp] theorem State.jumped_regs (s : State) (target : Word) (cost : Nat) : (s.jumped target cost).regs = s.regs := rfl
@[simp] theorem State.jumped_pc (s : State) (target : Word) (cost : Nat) : (s.jumped target cost).pc = target := rfl
@[simp] theorem State.jumped_sp (s : State) (target : Word) (cost : Nat) : (s.jumped target cost).sp = s.sp := rfl
@[simp] theorem State.jumped_ime (s : State) (target : Word) (cost : Nat) : (s.jumped target cost).ime = s.ime := rfl
@[simp] theorem State.jumped_halted (s : State) (target : Word) (cost : Nat) : (s.jumped target cost).halted = s.halted := rfl
@[simp] theorem State.jumped_haltBug (s : State) (target : Word) (cost : Nat) : (s.jumped target cost).haltBug = false := rfl
@[simp] theorem State.jumped_cycles (s : State) (target : Word) (cost : Nat) : (s.jumped target cost).cycles = s.cycles + cost := rfl
@[simp] theorem State.jumped_bus (s : State) (target : Word) (cost : Nat) : (s.jumped target cost).bus = s.bus := rfl
@[simp] theorem State.jumped_stopMode (s : State) (target : Word) (cost : Nat) : (s.jumped target cost).stopMode = s.stopMode := rfl
@[simp] theorem State.jumped_stop (s : State) (target : Word) (cost : Nat) : (s.jumped target cost).stop = s.stop := rfl

/-! ### The registers -/

@[simp] theorem Regs.get_set (x : Regs) (r r' : Reg8) (v : Byte) :
    (x.set r v).get r' = if r' = r then v else x.get r' := by
  cases r <;> cases r' <;> rfl

@[simp] theorem Regs.set_f (x : Regs) (r : Reg8) (v : Byte) : (x.set r v).f = x.f := by cases r <;> rfl

@[simp] theorem Regs.writeF_f (x : Regs) (v : Byte) : (x.writeF v).f = v &&& 0xF0 := rfl

@[simp] theorem Regs.get_writeF (x : Regs) (v : Byte) (r : Reg8) : (x.writeF v).get r = x.get r := by cases r <;> rfl

@[simp] theorem Regs.get_putFlags (x : Regs) (z n h c : Option Bool) (r : Reg8) :
    (x.putFlags z n h c).get r = x.get r := by cases r <;> rfl

/-! ### Byte order -/

@[simp] theorem lowByte_joinBytes (hi lo : Byte) : lowByte (joinBytes hi lo) = lo := by
  apply BitVec.eq_of_toNat_eq
  simp only [lowByte, joinBytes, BitVec.toNat_ofNat]
  omega

@[simp] theorem highByte_joinBytes (hi lo : Byte) : highByte (joinBytes hi lo) = hi := by
  apply BitVec.eq_of_toNat_eq
  simp only [highByte, joinBytes, BitVec.toNat_ofNat]
  omega

@[simp] theorem joinBytes_high_low (w : Word) : joinBytes (highByte w) (lowByte w) = w := by
  apply BitVec.eq_of_toNat_eq
  simp only [highByte, lowByte, joinBytes, BitVec.toNat_ofNat]
  omega

@[simp] theorem Regs.setBc_bc (x : Regs) (v : Word) : (x.setBc v).bc = v := joinBytes_high_low v
@[simp] theorem Regs.setDe_de (x : Regs) (v : Word) : (x.setDe v).de = v := joinBytes_high_low v
@[simp] theorem Regs.setHl_hl (x : Regs) (v : Word) : (x.setHl v).hl = v := joinBytes_high_low v

end Sys2Proof.Machine
end

