-- ==== Sys2Proof/Laws/Exec.lean ====
section
/-! SUPPORT. One equation per family of instructions: what `exec` does with the family's instruction, as the family's shared
operation; and that every instruction is one of these or one of the single instructions, so that a proof over all
instructions has a case per family and not one per constructor. -/

namespace Sys2Proof.Machine

/-! ### `exec` by family -/

theorem exec_loadRegReg (dst src : Reg8) (s : State) :
    exec (loadRegReg dst src) s = runLoadRegReg dst src s := by cases dst <;> cases src <;> rfl

theorem exec_loadRegImm (dst : Reg8) (n8 : Byte) (s : State) :
    exec (loadRegImm dst n8) s = runLoadRegImm dst n8 s := by cases dst <;> rfl

theorem exec_loadRegMem (dst : Reg8) (s : State) :
    exec (loadRegMem dst) s = runLoadRegMem dst s := by cases dst <;> rfl

theorem exec_storeMemReg (src : Reg8) (s : State) :
    exec (storeMemReg src) s = runStoreMemReg src s := by cases src <;> rfl

theorem exec_loadPairImm (p : Pair) (n16 : Word) (s : State) :
    exec (loadPairImm p n16) s = runLoadPairImm p n16 s := by cases p <;> rfl

theorem exec_addHlPair (p : Pair) (s : State) :
    exec (addHlPair p) s = runAddHl p s := by cases p <;> rfl

theorem exec_incPair (p : Pair) (s : State) :
    exec (incPair p) s = runStepPair p 1 s := by cases p <;> rfl

theorem exec_decPair (p : Pair) (s : State) :
    exec (decPair p) s = runStepPair p (-1) s := by cases p <;> rfl

theorem exec_pushPair (p : StackPair) (s : State) :
    exec (pushPair p) s = runPush p s := by cases p <;> rfl

theorem exec_popPair (p : StackPair) (s : State) :
    exec (popPair p) s = runPop p s := by cases p <;> rfl

theorem exec_incTarget (t : Target) (s : State) :
    exec (incTarget t) s = runInc t s := by rcases t with (_ | _ | _ | _ | _ | _ | _) | _ <;> rfl

theorem exec_decTarget (t : Target) (s : State) :
    exec (decTarget t) s = runDec t s := by rcases t with (_ | _ | _ | _ | _ | _ | _) | _ <;> rfl

theorem exec_aluInstr (op : AluOp) (src : AluSrc) (s : State) :
    exec (aluInstr op src) s = runAlu op src s := by cases op <;> rcases src with (_ | _ | _ | _ | _ | _ | _) | _ | _ <;> rfl

theorem exec_rotInstr (op : RotOp) (t : Target) (s : State) :
    exec (rotInstr op t) s = runRot op t s := by cases op <;> rcases t with (_ | _ | _ | _ | _ | _ | _) | _ <;> rfl

theorem exec_bitInstr (n : Fin 8) (t : Target) (s : State) :
    exec (bitInstr n t) s = runBit n t s := by fin_cases n <;> rcases t with (_ | _ | _ | _ | _ | _ | _) | _ <;> rfl

theorem exec_resInstr (n : Fin 8) (t : Target) (s : State) :
    exec (resInstr n t) s = runRes n t s := by fin_cases n <;> rcases t with (_ | _ | _ | _ | _ | _ | _) | _ <;> rfl

theorem exec_setInstr (n : Fin 8) (t : Target) (s : State) :
    exec (setInstr n t) s = runSet n t s := by fin_cases n <;> rcases t with (_ | _ | _ | _ | _ | _ | _) | _ <;> rfl

theorem exec_jumpRelIf (cc : Cond) (e8 : Byte) (s : State) :
    exec (jumpRelIf cc e8) s = runJumpRelIf cc e8 s := by cases cc <;> rfl

theorem exec_jumpIf (cc : Cond) (n16 : Word) (s : State) :
    exec (jumpIf cc n16) s = runJumpIf cc n16 s := by cases cc <;> rfl

theorem exec_callIf (cc : Cond) (n16 : Word) (s : State) :
    exec (callIf cc n16) s = runCallIf cc n16 s := by cases cc <;> rfl

theorem exec_returnIf (cc : Cond) (s : State) :
    exec (returnIf cc) s = runReturnIf cc s := by cases cc <;> rfl

theorem exec_restart (y : Fin 8) (s : State) :
    exec (restart y) s = runRestart y s := by fin_cases y <;> rfl

/-! ### The families cover the instructions -/

/-- The instruction forms: a family's instruction with its operands, or a single instruction. -/
inductive InFamily : Instr → Prop where
  | loadRegReg (dst src : Reg8) : InFamily (Sys2Proof.loadRegReg dst src)
  | loadRegImm (dst : Reg8) (n8 : Byte) : InFamily (Sys2Proof.loadRegImm dst n8)
  | loadRegMem (dst : Reg8) : InFamily (Sys2Proof.loadRegMem dst)
  | storeMemReg (src : Reg8) : InFamily (Sys2Proof.storeMemReg src)
  | loadPairImm (p : Pair) (n16 : Word) : InFamily (Sys2Proof.loadPairImm p n16)
  | addHlPair (p : Pair) : InFamily (Sys2Proof.addHlPair p)
  | incPair (p : Pair) : InFamily (Sys2Proof.incPair p)
  | decPair (p : Pair) : InFamily (Sys2Proof.decPair p)
  | pushPair (p : StackPair) : InFamily (Sys2Proof.pushPair p)
  | popPair (p : StackPair) : InFamily (Sys2Proof.popPair p)
  | incTarget (t : Target) : InFamily (Sys2Proof.incTarget t)
  | decTarget (t : Target) : InFamily (Sys2Proof.decTarget t)
  | aluInstr (op : AluOp) (src : AluSrc) : InFamily (Sys2Proof.aluInstr op src)
  | rotInstr (op : RotOp) (t : Target) : InFamily (Sys2Proof.rotInstr op t)
  | bitInstr (n : Fin 8) (t : Target) : InFamily (Sys2Proof.bitInstr n t)
  | resInstr (n : Fin 8) (t : Target) : InFamily (Sys2Proof.resInstr n t)
  | setInstr (n : Fin 8) (t : Target) : InFamily (Sys2Proof.setInstr n t)
  | jumpRelIf (cc : Cond) (e8 : Byte) : InFamily (Sys2Proof.jumpRelIf cc e8)
  | jumpIf (cc : Cond) (n16 : Word) : InFamily (Sys2Proof.jumpIf cc n16)
  | callIf (cc : Cond) (n16 : Word) : InFamily (Sys2Proof.callIf cc n16)
  | returnIf (cc : Cond) : InFamily (Sys2Proof.returnIf cc)
  | restart (y : Fin 8) : InFamily (Sys2Proof.restart y)
  | nop : InFamily (Instr.nop)
  | ldIndBcA : InFamily (Instr.ldIndBcA)
  | rlca : InFamily (Instr.rlca)
  | ldMemSp (n16 : Word) : InFamily (Instr.ldMemSp n16)
  | ldAIndBc : InFamily (Instr.ldAIndBc)
  | rrca : InFamily (Instr.rrca)
  | stop (n8 : Byte) : InFamily (Instr.stop n8)
  | ldIndDeA : InFamily (Instr.ldIndDeA)
  | rla : InFamily (Instr.rla)
  | jrE8 (e8 : Byte) : InFamily (Instr.jrE8 e8)
  | ldAIndDe : InFamily (Instr.ldAIndDe)
  | rra : InFamily (Instr.rra)
  | ldHliA : InFamily (Instr.ldHliA)
  | daa : InFamily (Instr.daa)
  | ldAHli : InFamily (Instr.ldAHli)
  | cpl : InFamily (Instr.cpl)
  | ldHldA : InFamily (Instr.ldHldA)
  | ldIndHlN8 (n8 : Byte) : InFamily (Instr.ldIndHlN8 n8)
  | scf : InFamily (Instr.scf)
  | ldAHld : InFamily (Instr.ldAHld)
  | ccf : InFamily (Instr.ccf)
  | halt : InFamily (Instr.halt)
  | jpN16 (n16 : Word) : InFamily (Instr.jpN16 n16)
  | ret : InFamily (Instr.ret)
  | prefixCb (b1 : Byte) : InFamily (Instr.prefixCb b1)
  | callN16 (n16 : Word) : InFamily (Instr.callN16 n16)
  | illegal (b0 : Byte) : InFamily (Instr.illegal b0)
  | reti : InFamily (Instr.reti)
  | ldhMemA (n8 : Byte) : InFamily (Instr.ldhMemA n8)
  | ldHighCA : InFamily (Instr.ldHighCA)
  | addSpE8 (e8 : Byte) : InFamily (Instr.addSpE8 e8)
  | jpHl : InFamily (Instr.jpHl)
  | ldMemA (n16 : Word) : InFamily (Instr.ldMemA n16)
  | ldhAMem (n8 : Byte) : InFamily (Instr.ldhAMem n8)
  | ldAHighC : InFamily (Instr.ldAHighC)
  | di : InFamily (Instr.di)
  | ldHlSpE8 (e8 : Byte) : InFamily (Instr.ldHlSpE8 e8)
  | ldSpHl : InFamily (Instr.ldSpHl)
  | ldAMem (n16 : Word) : InFamily (Instr.ldAMem n16)
  | ei : InFamily (Instr.ei)

/-- Every instruction is of one of the forms. -/
theorem inFamily (i : Instr) : InFamily i := by
  cases i with
  | nop => exact .nop
  | ldBcN16 n16 => exact .loadPairImm .bc n16
  | ldIndBcA => exact .ldIndBcA
  | incBc => exact .incPair .bc
  | incB => exact .incTarget (.reg .b)
  | decB => exact .decTarget (.reg .b)
  | ldBN8 n8 => exact .loadRegImm .b n8
  | rlca => exact .rlca
  | ldMemSp n16 => exact .ldMemSp n16
  | addHlBc => exact .addHlPair .bc
  | ldAIndBc => exact .ldAIndBc
  | decBc => exact .decPair .bc
  | incC => exact .incTarget (.reg .c)
  | decC => exact .decTarget (.reg .c)
  | ldCN8 n8 => exact .loadRegImm .c n8
  | rrca => exact .rrca
  | stop n8 => exact .stop n8
  | ldDeN16 n16 => exact .loadPairImm .de n16
  | ldIndDeA => exact .ldIndDeA
  | incDe => exact .incPair .de
  | incD => exact .incTarget (.reg .d)
  | decD => exact .decTarget (.reg .d)
  | ldDN8 n8 => exact .loadRegImm .d n8
  | rla => exact .rla
  | jrE8 e8 => exact .jrE8 e8
  | addHlDe => exact .addHlPair .de
  | ldAIndDe => exact .ldAIndDe
  | decDe => exact .decPair .de
  | incE => exact .incTarget (.reg .e)
  | decE => exact .decTarget (.reg .e)
  | ldEN8 n8 => exact .loadRegImm .e n8
  | rra => exact .rra
  | jrNzE8 e8 => exact .jumpRelIf .nz e8
  | ldHlN16 n16 => exact .loadPairImm .hl n16
  | ldHliA => exact .ldHliA
  | incHl => exact .incPair .hl
  | incH => exact .incTarget (.reg .h)
  | decH => exact .decTarget (.reg .h)
  | ldHN8 n8 => exact .loadRegImm .h n8
  | daa => exact .daa
  | jrZE8 e8 => exact .jumpRelIf .z e8
  | addHlHl => exact .addHlPair .hl
  | ldAHli => exact .ldAHli
  | decHl => exact .decPair .hl
  | incL => exact .incTarget (.reg .l)
  | decL => exact .decTarget (.reg .l)
  | ldLN8 n8 => exact .loadRegImm .l n8
  | cpl => exact .cpl
  | jrNcE8 e8 => exact .jumpRelIf .nc e8
  | ldSpN16 n16 => exact .loadPairImm .sp n16
  | ldHldA => exact .ldHldA
  | incSp => exact .incPair .sp
  | incIndHl => exact .incTarget .atHl
  | decIndHl => exact .decTarget .atHl
  | ldIndHlN8 n8 => exact .ldIndHlN8 n8
  | scf => exact .scf
  | jrCE8 e8 => exact .jumpRelIf .c e8
  | addHlSp => exact .addHlPair .sp
  | ldAHld => exact .ldAHld
  | decSp => exact .decPair .sp
  | incA => exact .incTarget (.reg .a)
  | decA => exact .decTarget (.reg .a)
  | ldAN8 n8 => exact .loadRegImm .a n8
  | ccf => exact .ccf
  | ldBB => exact .loadRegReg .b .b
  | ldBC => exact .loadRegReg .b .c
  | ldBD => exact .loadRegReg .b .d
  | ldBE => exact .loadRegReg .b .e
  | ldBH => exact .loadRegReg .b .h
  | ldBL => exact .loadRegReg .b .l
  | ldBIndHl => exact .loadRegMem .b
  | ldBA => exact .loadRegReg .b .a
  | ldCB => exact .loadRegReg .c .b
  | ldCC => exact .loadRegReg .c .c
  | ldCD => exact .loadRegReg .c .d
  | ldCE => exact .loadRegReg .c .e
  | ldCH => exact .loadRegReg .c .h
  | ldCL => exact .loadRegReg .c .l
  | ldCIndHl => exact .loadRegMem .c
  | ldCA => exact .loadRegReg .c .a
  | ldDB => exact .loadRegReg .d .b
  | ldDC => exact .loadRegReg .d .c
  | ldDD => exact .loadRegReg .d .d
  | ldDE => exact .loadRegReg .d .e
  | ldDH => exact .loadRegReg .d .h
  | ldDL => exact .loadRegReg .d .l
  | ldDIndHl => exact .loadRegMem .d
  | ldDA => exact .loadRegReg .d .a
  | ldEB => exact .loadRegReg .e .b
  | ldEC => exact .loadRegReg .e .c
  | ldED => exact .loadRegReg .e .d
  | ldEE => exact .loadRegReg .e .e
  | ldEH => exact .loadRegReg .e .h
  | ldEL => exact .loadRegReg .e .l
  | ldEIndHl => exact .loadRegMem .e
  | ldEA => exact .loadRegReg .e .a
  | ldHB => exact .loadRegReg .h .b
  | ldHC => exact .loadRegReg .h .c
  | ldHD => exact .loadRegReg .h .d
  | ldHE => exact .loadRegReg .h .e
  | ldHH => exact .loadRegReg .h .h
  | ldHL => exact .loadRegReg .h .l
  | ldHIndHl => exact .loadRegMem .h
  | ldHA => exact .loadRegReg .h .a
  | ldLB => exact .loadRegReg .l .b
  | ldLC => exact .loadRegReg .l .c
  | ldLD => exact .loadRegReg .l .d
  | ldLE => exact .loadRegReg .l .e
  | ldLH => exact .loadRegReg .l .h
  | ldLL => exact .loadRegReg .l .l
  | ldLIndHl => exact .loadRegMem .l
  | ldLA => exact .loadRegReg .l .a
  | ldIndHlB => exact .storeMemReg .b
  | ldIndHlC => exact .storeMemReg .c
  | ldIndHlD => exact .storeMemReg .d
  | ldIndHlE => exact .storeMemReg .e
  | ldIndHlH => exact .storeMemReg .h
  | ldIndHlL => exact .storeMemReg .l
  | halt => exact .halt
  | ldIndHlA => exact .storeMemReg .a
  | ldAB => exact .loadRegReg .a .b
  | ldAC => exact .loadRegReg .a .c
  | ldAD => exact .loadRegReg .a .d
  | ldAE => exact .loadRegReg .a .e
  | ldAH => exact .loadRegReg .a .h
  | ldAL => exact .loadRegReg .a .l
  | ldAIndHl => exact .loadRegMem .a
  | ldAA => exact .loadRegReg .a .a
  | addAB => exact .aluInstr .add (.reg .b)
  | addAC => exact .aluInstr .add (.reg .c)
  | addAD => exact .aluInstr .add (.reg .d)
  | addAE => exact .aluInstr .add (.reg .e)
  | addAH => exact .aluInstr .add (.reg .h)
  | addAL => exact .aluInstr .add (.reg .l)
  | addAIndHl => exact .aluInstr .add .atHl
  | addAA => exact .aluInstr .add (.reg .a)
  | adcAB => exact .aluInstr .adc (.reg .b)
  | adcAC => exact .aluInstr .adc (.reg .c)
  | adcAD => exact .aluInstr .adc (.reg .d)
  | adcAE => exact .aluInstr .adc (.reg .e)
  | adcAH => exact .aluInstr .adc (.reg .h)
  | adcAL => exact .aluInstr .adc (.reg .l)
  | adcAIndHl => exact .aluInstr .adc .atHl
  | adcAA => exact .aluInstr .adc (.reg .a)
  | subB => exact .aluInstr .sub (.reg .b)
  | subC => exact .aluInstr .sub (.reg .c)
  | subD => exact .aluInstr .sub (.reg .d)
  | subE => exact .aluInstr .sub (.reg .e)
  | subH => exact .aluInstr .sub (.reg .h)
  | subL => exact .aluInstr .sub (.reg .l)
  | subIndHl => exact .aluInstr .sub .atHl
  | subA => exact .aluInstr .sub (.reg .a)
  | sbcAB => exact .aluInstr .sbc (.reg .b)
  | sbcAC => exact .aluInstr .sbc (.reg .c)
  | sbcAD => exact .aluInstr .sbc (.reg .d)
  | sbcAE => exact .aluInstr .sbc (.reg .e)
  | sbcAH => exact .aluInstr .sbc (.reg .h)
  | sbcAL => exact .aluInstr .sbc (.reg .l)
  | sbcAIndHl => exact .aluInstr .sbc .atHl
  | sbcAA => exact .aluInstr .sbc (.reg .a)
  | andB => exact .aluInstr .and (.reg .b)
  | andC => exact .aluInstr .and (.reg .c)
  | andD => exact .aluInstr .and (.reg .d)
  | andE => exact .aluInstr .and (.reg .e)
  | andH => exact .aluInstr .and (.reg .h)
  | andL => exact .aluInstr .and (.reg .l)
  | andIndHl => exact .aluInstr .and .atHl
  | andA => exact .aluInstr .and (.reg .a)
  | xorB => exact .aluInstr .xor (.reg .b)
  | xorC => exact .aluInstr .xor (.reg .c)
  | xorD => exact .aluInstr .xor (.reg .d)
  | xorE => exact .aluInstr .xor (.reg .e)
  | xorH => exact .aluInstr .xor (.reg .h)
  | xorL => exact .aluInstr .xor (.reg .l)
  | xorIndHl => exact .aluInstr .xor .atHl
  | xorA => exact .aluInstr .xor (.reg .a)
  | orB => exact .aluInstr .or (.reg .b)
  | orC => exact .aluInstr .or (.reg .c)
  | orD => exact .aluInstr .or (.reg .d)
  | orE => exact .aluInstr .or (.reg .e)
  | orH => exact .aluInstr .or (.reg .h)
  | orL => exact .aluInstr .or (.reg .l)
  | orIndHl => exact .aluInstr .or .atHl
  | orA => exact .aluInstr .or (.reg .a)
  | cpB => exact .aluInstr .cp (.reg .b)
  | cpC => exact .aluInstr .cp (.reg .c)
  | cpD => exact .aluInstr .cp (.reg .d)
  | cpE => exact .aluInstr .cp (.reg .e)
  | cpH => exact .aluInstr .cp (.reg .h)
  | cpL => exact .aluInstr .cp (.reg .l)
  | cpIndHl => exact .aluInstr .cp .atHl
  | cpA => exact .aluInstr .cp (.reg .a)
  | retNz => exact .returnIf .nz
  | popBc => exact .popPair .bc
  | jpNzN16 n16 => exact .jumpIf .nz n16
  | jpN16 n16 => exact .jpN16 n16
  | callNzN16 n16 => exact .callIf .nz n16
  | pushBc => exact .pushPair .bc
  | addAN8 n8 => exact .aluInstr .add (.imm n8)
  | rst00 => exact .restart 0
  | retZ => exact .returnIf .z
  | ret => exact .ret
  | jpZN16 n16 => exact .jumpIf .z n16
  | prefixCb b1 => exact .prefixCb b1
  | callZN16 n16 => exact .callIf .z n16
  | callN16 n16 => exact .callN16 n16
  | adcAN8 n8 => exact .aluInstr .adc (.imm n8)
  | rst08 => exact .restart 1
  | retNc => exact .returnIf .nc
  | popDe => exact .popPair .de
  | jpNcN16 n16 => exact .jumpIf .nc n16
  | illegal b0 => exact .illegal b0
  | callNcN16 n16 => exact .callIf .nc n16
  | pushDe => exact .pushPair .de
  | subN8 n8 => exact .aluInstr .sub (.imm n8)
  | rst10 => exact .restart 2
  | retC => exact .returnIf .c
  | reti => exact .reti
  | jpCN16 n16 => exact .jumpIf .c n16
  | callCN16 n16 => exact .callIf .c n16
  | sbcAN8 n8 => exact .aluInstr .sbc (.imm n8)
  | rst18 => exact .restart 3
  | ldhMemA n8 => exact .ldhMemA n8
  | popHl => exact .popPair .hl
  | ldHighCA => exact .ldHighCA
  | pushHl => exact .pushPair .hl
  | andN8 n8 => exact .aluInstr .and (.imm n8)
  | rst20 => exact .restart 4
  | addSpE8 e8 => exact .addSpE8 e8
  | jpHl => exact .jpHl
  | ldMemA n16 => exact .ldMemA n16
  | xorN8 n8 => exact .aluInstr .xor (.imm n8)
  | rst28 => exact .restart 5
  | ldhAMem n8 => exact .ldhAMem n8
  | popAf => exact .popPair .af
  | ldAHighC => exact .ldAHighC
  | di => exact .di
  | pushAf => exact .pushPair .af
  | orN8 n8 => exact .aluInstr .or (.imm n8)
  | rst30 => exact .restart 6
  | ldHlSpE8 e8 => exact .ldHlSpE8 e8
  | ldSpHl => exact .ldSpHl
  | ldAMem n16 => exact .ldAMem n16
  | ei => exact .ei
  | cpN8 n8 => exact .aluInstr .cp (.imm n8)
  | rst38 => exact .restart 7
  | rlcB => exact .rotInstr .rlc (.reg .b)
  | rlcC => exact .rotInstr .rlc (.reg .c)
  | rlcD => exact .rotInstr .rlc (.reg .d)
  | rlcE => exact .rotInstr .rlc (.reg .e)
  | rlcH => exact .rotInstr .rlc (.reg .h)
  | rlcL => exact .rotInstr .rlc (.reg .l)
  | rlcIndHl => exact .rotInstr .rlc .atHl
  | rlcA => exact .rotInstr .rlc (.reg .a)
  | rrcB => exact .rotInstr .rrc (.reg .b)
  | rrcC => exact .rotInstr .rrc (.reg .c)
  | rrcD => exact .rotInstr .rrc (.reg .d)
  | rrcE => exact .rotInstr .rrc (.reg .e)
  | rrcH => exact .rotInstr .rrc (.reg .h)
  | rrcL => exact .rotInstr .rrc (.reg .l)
  | rrcIndHl => exact .rotInstr .rrc .atHl
  | rrcA => exact .rotInstr .rrc (.reg .a)
  | rlB => exact .rotInstr .rl (.reg .b)
  | rlC => exact .rotInstr .rl (.reg .c)
  | rlD => exact .rotInstr .rl (.reg .d)
  | rlE => exact .rotInstr .rl (.reg .e)
  | rlH => exact .rotInstr .rl (.reg .h)
  | rlL => exact .rotInstr .rl (.reg .l)
  | rlIndHl => exact .rotInstr .rl .atHl
  | rlA => exact .rotInstr .rl (.reg .a)
  | rrB => exact .rotInstr .rr (.reg .b)
  | rrC => exact .rotInstr .rr (.reg .c)
  | rrD => exact .rotInstr .rr (.reg .d)
  | rrE => exact .rotInstr .rr (.reg .e)
  | rrH => exact .rotInstr .rr (.reg .h)
  | rrL => exact .rotInstr .rr (.reg .l)
  | rrIndHl => exact .rotInstr .rr .atHl
  | rrA => exact .rotInstr .rr (.reg .a)
  | slaB => exact .rotInstr .sla (.reg .b)
  | slaC => exact .rotInstr .sla (.reg .c)
  | slaD => exact .rotInstr .sla (.reg .d)
  | slaE => exact .rotInstr .sla (.reg .e)
  | slaH => exact .rotInstr .sla (.reg .h)
  | slaL => exact .rotInstr .sla (.reg .l)
  | slaIndHl => exact .rotInstr .sla .atHl
  | slaA => exact .rotInstr .sla (.reg .a)
  | sraB => exact .rotInstr .sra (.reg .b)
  | sraC => exact .rotInstr .sra (.reg .c)
  | sraD => exact .rotInstr .sra (.reg .d)
  | sraE => exact .rotInstr .sra (.reg .e)
  | sraH => exact .rotInstr .sra (.reg .h)
  | sraL => exact .rotInstr .sra (.reg .l)
  | sraIndHl => exact .rotInstr .sra .atHl
  | sraA => exact .rotInstr .sra (.reg .a)
  | swapB => exact .rotInstr .swap (.reg .b)
  | swapC => exact .rotInstr .swap (.reg .c)
  | swapD => exact .rotInstr .swap (.reg .d)
  | swapE => exact .rotInstr .swap (.reg .e)
  | swapH => exact .rotInstr .swap (.reg .h)
  | swapL => exact .rotInstr .swap (.reg .l)
  | swapIndHl => exact .rotInstr .swap .atHl
  | swapA => exact .rotInstr .swap (.reg .a)
  | srlB => exact .rotInstr .srl (.reg .b)
  | srlC => exact .rotInstr .srl (.reg .c)
  | srlD => exact .rotInstr .srl (.reg .d)
  | srlE => exact .rotInstr .srl (.reg .e)
  | srlH => exact .rotInstr .srl (.reg .h)
  | srlL => exact .rotInstr .srl (.reg .l)
  | srlIndHl => exact .rotInstr .srl .atHl
  | srlA => exact .rotInstr .srl (.reg .a)
  | bit0B => exact .bitInstr 0 (.reg .b)
  | bit0C => exact .bitInstr 0 (.reg .c)
  | bit0D => exact .bitInstr 0 (.reg .d)
  | bit0E => exact .bitInstr 0 (.reg .e)
  | bit0H => exact .bitInstr 0 (.reg .h)
  | bit0L => exact .bitInstr 0 (.reg .l)
  | bit0IndHl => exact .bitInstr 0 .atHl
  | bit0A => exact .bitInstr 0 (.reg .a)
  | bit1B => exact .bitInstr 1 (.reg .b)
  | bit1C => exact .bitInstr 1 (.reg .c)
  | bit1D => exact .bitInstr 1 (.reg .d)
  | bit1E => exact .bitInstr 1 (.reg .e)
  | bit1H => exact .bitInstr 1 (.reg .h)
  | bit1L => exact .bitInstr 1 (.reg .l)
  | bit1IndHl => exact .bitInstr 1 .atHl
  | bit1A => exact .bitInstr 1 (.reg .a)
  | bit2B => exact .bitInstr 2 (.reg .b)
  | bit2C => exact .bitInstr 2 (.reg .c)
  | bit2D => exact .bitInstr 2 (.reg .d)
  | bit2E => exact .bitInstr 2 (.reg .e)
  | bit2H => exact .bitInstr 2 (.reg .h)
  | bit2L => exact .bitInstr 2 (.reg .l)
  | bit2IndHl => exact .bitInstr 2 .atHl
  | bit2A => exact .bitInstr 2 (.reg .a)
  | bit3B => exact .bitInstr 3 (.reg .b)
  | bit3C => exact .bitInstr 3 (.reg .c)
  | bit3D => exact .bitInstr 3 (.reg .d)
  | bit3E => exact .bitInstr 3 (.reg .e)
  | bit3H => exact .bitInstr 3 (.reg .h)
  | bit3L => exact .bitInstr 3 (.reg .l)
  | bit3IndHl => exact .bitInstr 3 .atHl
  | bit3A => exact .bitInstr 3 (.reg .a)
  | bit4B => exact .bitInstr 4 (.reg .b)
  | bit4C => exact .bitInstr 4 (.reg .c)
  | bit4D => exact .bitInstr 4 (.reg .d)
  | bit4E => exact .bitInstr 4 (.reg .e)
  | bit4H => exact .bitInstr 4 (.reg .h)
  | bit4L => exact .bitInstr 4 (.reg .l)
  | bit4IndHl => exact .bitInstr 4 .atHl
  | bit4A => exact .bitInstr 4 (.reg .a)
  | bit5B => exact .bitInstr 5 (.reg .b)
  | bit5C => exact .bitInstr 5 (.reg .c)
  | bit5D => exact .bitInstr 5 (.reg .d)
  | bit5E => exact .bitInstr 5 (.reg .e)
  | bit5H => exact .bitInstr 5 (.reg .h)
  | bit5L => exact .bitInstr 5 (.reg .l)
  | bit5IndHl => exact .bitInstr 5 .atHl
  | bit5A => exact .bitInstr 5 (.reg .a)
  | bit6B => exact .bitInstr 6 (.reg .b)
  | bit6C => exact .bitInstr 6 (.reg .c)
  | bit6D => exact .bitInstr 6 (.reg .d)
  | bit6E => exact .bitInstr 6 (.reg .e)
  | bit6H => exact .bitInstr 6 (.reg .h)
  | bit6L => exact .bitInstr 6 (.reg .l)
  | bit6IndHl => exact .bitInstr 6 .atHl
  | bit6A => exact .bitInstr 6 (.reg .a)
  | bit7B => exact .bitInstr 7 (.reg .b)
  | bit7C => exact .bitInstr 7 (.reg .c)
  | bit7D => exact .bitInstr 7 (.reg .d)
  | bit7E => exact .bitInstr 7 (.reg .e)
  | bit7H => exact .bitInstr 7 (.reg .h)
  | bit7L => exact .bitInstr 7 (.reg .l)
  | bit7IndHl => exact .bitInstr 7 .atHl
  | bit7A => exact .bitInstr 7 (.reg .a)
  | res0B => exact .resInstr 0 (.reg .b)
  | res0C => exact .resInstr 0 (.reg .c)
  | res0D => exact .resInstr 0 (.reg .d)
  | res0E => exact .resInstr 0 (.reg .e)
  | res0H => exact .resInstr 0 (.reg .h)
  | res0L => exact .resInstr 0 (.reg .l)
  | res0IndHl => exact .resInstr 0 .atHl
  | res0A => exact .resInstr 0 (.reg .a)
  | res1B => exact .resInstr 1 (.reg .b)
  | res1C => exact .resInstr 1 (.reg .c)
  | res1D => exact .resInstr 1 (.reg .d)
  | res1E => exact .resInstr 1 (.reg .e)
  | res1H => exact .resInstr 1 (.reg .h)
  | res1L => exact .resInstr 1 (.reg .l)
  | res1IndHl => exact .resInstr 1 .atHl
  | res1A => exact .resInstr 1 (.reg .a)
  | res2B => exact .resInstr 2 (.reg .b)
  | res2C => exact .resInstr 2 (.reg .c)
  | res2D => exact .resInstr 2 (.reg .d)
  | res2E => exact .resInstr 2 (.reg .e)
  | res2H => exact .resInstr 2 (.reg .h)
  | res2L => exact .resInstr 2 (.reg .l)
  | res2IndHl => exact .resInstr 2 .atHl
  | res2A => exact .resInstr 2 (.reg .a)
  | res3B => exact .resInstr 3 (.reg .b)
  | res3C => exact .resInstr 3 (.reg .c)
  | res3D => exact .resInstr 3 (.reg .d)
  | res3E => exact .resInstr 3 (.reg .e)
  | res3H => exact .resInstr 3 (.reg .h)
  | res3L => exact .resInstr 3 (.reg .l)
  | res3IndHl => exact .resInstr 3 .atHl
  | res3A => exact .resInstr 3 (.reg .a)
  | res4B => exact .resInstr 4 (.reg .b)
  | res4C => exact .resInstr 4 (.reg .c)
  | res4D => exact .resInstr 4 (.reg .d)
  | res4E => exact .resInstr 4 (.reg .e)
  | res4H => exact .resInstr 4 (.reg .h)
  | res4L => exact .resInstr 4 (.reg .l)
  | res4IndHl => exact .resInstr 4 .atHl
  | res4A => exact .resInstr 4 (.reg .a)
  | res5B => exact .resInstr 5 (.reg .b)
  | res5C => exact .resInstr 5 (.reg .c)
  | res5D => exact .resInstr 5 (.reg .d)
  | res5E => exact .resInstr 5 (.reg .e)
  | res5H => exact .resInstr 5 (.reg .h)
  | res5L => exact .resInstr 5 (.reg .l)
  | res5IndHl => exact .resInstr 5 .atHl
  | res5A => exact .resInstr 5 (.reg .a)
  | res6B => exact .resInstr 6 (.reg .b)
  | res6C => exact .resInstr 6 (.reg .c)
  | res6D => exact .resInstr 6 (.reg .d)
  | res6E => exact .resInstr 6 (.reg .e)
  | res6H => exact .resInstr 6 (.reg .h)
  | res6L => exact .resInstr 6 (.reg .l)
  | res6IndHl => exact .resInstr 6 .atHl
  | res6A => exact .resInstr 6 (.reg .a)
  | res7B => exact .resInstr 7 (.reg .b)
  | res7C => exact .resInstr 7 (.reg .c)
  | res7D => exact .resInstr 7 (.reg .d)
  | res7E => exact .resInstr 7 (.reg .e)
  | res7H => exact .resInstr 7 (.reg .h)
  | res7L => exact .resInstr 7 (.reg .l)
  | res7IndHl => exact .resInstr 7 .atHl
  | res7A => exact .resInstr 7 (.reg .a)
  | set0B => exact .setInstr 0 (.reg .b)
  | set0C => exact .setInstr 0 (.reg .c)
  | set0D => exact .setInstr 0 (.reg .d)
  | set0E => exact .setInstr 0 (.reg .e)
  | set0H => exact .setInstr 0 (.reg .h)
  | set0L => exact .setInstr 0 (.reg .l)
  | set0IndHl => exact .setInstr 0 .atHl
  | set0A => exact .setInstr 0 (.reg .a)
  | set1B => exact .setInstr 1 (.reg .b)
  | set1C => exact .setInstr 1 (.reg .c)
  | set1D => exact .setInstr 1 (.reg .d)
  | set1E => exact .setInstr 1 (.reg .e)
  | set1H => exact .setInstr 1 (.reg .h)
  | set1L => exact .setInstr 1 (.reg .l)
  | set1IndHl => exact .setInstr 1 .atHl
  | set1A => exact .setInstr 1 (.reg .a)
  | set2B => exact .setInstr 2 (.reg .b)
  | set2C => exact .setInstr 2 (.reg .c)
  | set2D => exact .setInstr 2 (.reg .d)
  | set2E => exact .setInstr 2 (.reg .e)
  | set2H => exact .setInstr 2 (.reg .h)
  | set2L => exact .setInstr 2 (.reg .l)
  | set2IndHl => exact .setInstr 2 .atHl
  | set2A => exact .setInstr 2 (.reg .a)
  | set3B => exact .setInstr 3 (.reg .b)
  | set3C => exact .setInstr 3 (.reg .c)
  | set3D => exact .setInstr 3 (.reg .d)
  | set3E => exact .setInstr 3 (.reg .e)
  | set3H => exact .setInstr 3 (.reg .h)
  | set3L => exact .setInstr 3 (.reg .l)
  | set3IndHl => exact .setInstr 3 .atHl
  | set3A => exact .setInstr 3 (.reg .a)
  | set4B => exact .setInstr 4 (.reg .b)
  | set4C => exact .setInstr 4 (.reg .c)
  | set4D => exact .setInstr 4 (.reg .d)
  | set4E => exact .setInstr 4 (.reg .e)
  | set4H => exact .setInstr 4 (.reg .h)
  | set4L => exact .setInstr 4 (.reg .l)
  | set4IndHl => exact .setInstr 4 .atHl
  | set4A => exact .setInstr 4 (.reg .a)
  | set5B => exact .setInstr 5 (.reg .b)
  | set5C => exact .setInstr 5 (.reg .c)
  | set5D => exact .setInstr 5 (.reg .d)
  | set5E => exact .setInstr 5 (.reg .e)
  | set5H => exact .setInstr 5 (.reg .h)
  | set5L => exact .setInstr 5 (.reg .l)
  | set5IndHl => exact .setInstr 5 .atHl
  | set5A => exact .setInstr 5 (.reg .a)
  | set6B => exact .setInstr 6 (.reg .b)
  | set6C => exact .setInstr 6 (.reg .c)
  | set6D => exact .setInstr 6 (.reg .d)
  | set6E => exact .setInstr 6 (.reg .e)
  | set6H => exact .setInstr 6 (.reg .h)
  | set6L => exact .setInstr 6 (.reg .l)
  | set6IndHl => exact .setInstr 6 .atHl
  | set6A => exact .setInstr 6 (.reg .a)
  | set7B => exact .setInstr 7 (.reg .b)
  | set7C => exact .setInstr 7 (.reg .c)
  | set7D => exact .setInstr 7 (.reg .d)
  | set7E => exact .setInstr 7 (.reg .e)
  | set7H => exact .setInstr 7 (.reg .h)
  | set7L => exact .setInstr 7 (.reg .l)
  | set7IndHl => exact .setInstr 7 .atHl
  | set7A => exact .setInstr 7 (.reg .a)

end Sys2Proof.Machine
end

