-- ==== Sys2Proof/Laws/Flags.lean ====
section
/-! SUPPORT. The flags: what F holds after an instruction's flag effects, as a number of the four flags (R21, R24). -/

namespace Sys2Proof.Machine

/-- F with its low bits cleared is the number of its four flags. -/
theorem masked_eq_flagByte (f : Byte) :
    f &&& 0xF0 = flagByte (f.getLsbD 7) (f.getLsbD 6) (f.getLsbD 5) (f.getLsbD 4) := by
  revert f; decide

/-- One put flag, read back at the four flag bits. -/
theorem putFlag_bits (f : Byte) (v : Bool) :
    ((putFlag maskZ v f).getLsbD 7 = v ∧ (putFlag maskZ v f).getLsbD 6 = f.getLsbD 6 ∧
      (putFlag maskZ v f).getLsbD 5 = f.getLsbD 5 ∧ (putFlag maskZ v f).getLsbD 4 = f.getLsbD 4) ∧
    ((putFlag maskN v f).getLsbD 7 = f.getLsbD 7 ∧ (putFlag maskN v f).getLsbD 6 = v ∧
      (putFlag maskN v f).getLsbD 5 = f.getLsbD 5 ∧ (putFlag maskN v f).getLsbD 4 = f.getLsbD 4) ∧
    ((putFlag maskH v f).getLsbD 7 = f.getLsbD 7 ∧ (putFlag maskH v f).getLsbD 6 = f.getLsbD 6 ∧
      (putFlag maskH v f).getLsbD 5 = v ∧ (putFlag maskH v f).getLsbD 4 = f.getLsbD 4) ∧
    ((putFlag maskC v f).getLsbD 7 = f.getLsbD 7 ∧ (putFlag maskC v f).getLsbD 6 = f.getLsbD 6 ∧
      (putFlag maskC v f).getLsbD 5 = f.getLsbD 5 ∧ (putFlag maskC v f).getLsbD 4 = v) := by
  cases v <;> simp [putFlag, maskZ, maskN, maskH, maskC]

/-- One flag put or left, read back at the four flag bits. -/
theorem putFlag?_bits (f : Byte) (v : Option Bool) :
    ((putFlag? maskZ v f).getLsbD 7 = v.getD (f.getLsbD 7) ∧ (putFlag? maskZ v f).getLsbD 6 = f.getLsbD 6 ∧
      (putFlag? maskZ v f).getLsbD 5 = f.getLsbD 5 ∧ (putFlag? maskZ v f).getLsbD 4 = f.getLsbD 4) ∧
    ((putFlag? maskN v f).getLsbD 7 = f.getLsbD 7 ∧ (putFlag? maskN v f).getLsbD 6 = v.getD (f.getLsbD 6) ∧
      (putFlag? maskN v f).getLsbD 5 = f.getLsbD 5 ∧ (putFlag? maskN v f).getLsbD 4 = f.getLsbD 4) ∧
    ((putFlag? maskH v f).getLsbD 7 = f.getLsbD 7 ∧ (putFlag? maskH v f).getLsbD 6 = f.getLsbD 6 ∧
      (putFlag? maskH v f).getLsbD 5 = v.getD (f.getLsbD 5) ∧ (putFlag? maskH v f).getLsbD 4 = f.getLsbD 4) ∧
    ((putFlag? maskC v f).getLsbD 7 = f.getLsbD 7 ∧ (putFlag? maskC v f).getLsbD 6 = f.getLsbD 6 ∧
      (putFlag? maskC v f).getLsbD 5 = f.getLsbD 5 ∧ (putFlag? maskC v f).getLsbD 4 = v.getD (f.getLsbD 4)) := by
  cases v with
  | none => simp [putFlag?]
  | some v => exact putFlag_bits f v

/-- F after an instruction's flag effects: each flag as written, or as it was; the low bits zero. -/
theorem Regs.putFlags_f (x : Regs) (z n h c : Option Bool) :
    (x.putFlags z n h c).f =
      flagByte (z.getD x.flagZ) (n.getD x.flagN) (h.getD x.flagH) (c.getD x.flagC) := by
  obtain ⟨⟨z7, z6, z5, z4⟩, -, -, -⟩ := putFlag?_bits x.f z
  obtain ⟨-, ⟨n7, n6, n5, n4⟩, -, -⟩ := putFlag?_bits (putFlag? maskZ z x.f) n
  obtain ⟨-, -, ⟨h7, h6, h5, h4⟩, -⟩ := putFlag?_bits (putFlag? maskN n (putFlag? maskZ z x.f)) h
  obtain ⟨-, -, -, ⟨c7, c6, c5, c4⟩⟩ := putFlag?_bits (putFlag? maskH h (putFlag? maskN n (putFlag? maskZ z x.f))) c
  rw [Regs.putFlags, Regs.writeF_f, masked_eq_flagByte, c7, c6, c5, c4, h7, h6, h5, h4, n7, n6, n5, n4, z7, z6, z5, z4]
  rfl

/-- Flag effects change F alone. -/
theorem Regs.putFlags_eq (x : Regs) (z n h c : Option Bool) :
    x.putFlags z n h c =
      { x with f := flagByte (z.getD x.flagZ) (n.getD x.flagN) (h.getD x.flagH) (c.getD x.flagC) } := by
  rw [← Regs.putFlags_f]; rfl

/-- The four flags of the number of four flags. -/
theorem flagByte_bits (z n h c : Bool) :
    (flagByte z n h c).getLsbD 7 = z ∧ (flagByte z n h c).getLsbD 6 = n ∧ (flagByte z n h c).getLsbD 5 = h ∧
      (flagByte z n h c).getLsbD 4 = c := by
  cases z <;> cases n <;> cases h <;> cases c <;> decide

/-- The number of four flags has its low bits zero (R21). -/
theorem flagByte_low (z n h c : Bool) : flagByte z n h c &&& 0x0F = 0 := by
  cases z <;> cases n <;> cases h <;> cases c <;> decide

end Sys2Proof.Machine
end

