-- ==== Sys2Proof/Laws/Inv.lean ====
section
/-! SUPPORT. The well-formed states: each shared operation of the bus, of its devices and of the CPU keeps the part of the
invariant it touches. -/

namespace Sys2Proof.Machine

/-! ### Canonical lists -/

theorem Memory.Within.write {p : Nat → Prop} {m : Memory} (h : Memory.Within p m) {key : Nat} (v : Byte) (hk : p key) :
    Memory.Within p (Memory.write m key v) :=
  ⟨Memory.wf_write h.wf key v, fun c hc => (Memory.mem_write hc).elim (fun e => e ▸ hk) (h.keys c)⟩

theorem Memory.Within.nil (p : Nat → Prop) : Memory.Within p [] := ⟨Memory.wf_nil, fun _ hc => absurd hc (by simp)⟩

/-! ### The cartridge -/

theorem reduceBank_range {count : Nat} (h : 2 ≤ count) (v : Nat) : 1 ≤ reduceBank count v ∧ reduceBank count v < count := by
  unfold reduceBank
  have := Nat.mod_lt v (show 0 < count by omega)
  split <;> omega

theorem Cartridge.Inv.mbc1Recompute {c : Cartridge} (h : c.Inv) (hk : c.kind = .mbc1) : c.mbc1Recompute.Inv where
  rom := h.rom
  ram := h.ram
  banks := h.banks
  bank := fun hl => reduceBank_range (h.banks hl).1 _
  ramBank := by
    unfold Cartridge.mbc1Recompute; dsimp only; split
    · have := c.bankHigh2.isLt; omega
    · omega
  low5 := h.low5
  noController := fun hn => absurd (hk.symm.trans hn) (by decide)

theorem mbc1Low5_ne (v : Byte) : mbc1Low5 v ≠ 0 := by
  unfold mbc1Low5; split
  · decide
  · assumption

theorem Cartridge.Inv.writeMbc1 {c : Cartridge} (h : c.Inv) (hk : c.kind = .mbc1) (n : Nat) (v : Byte) :
    (c.writeMbc1 n v).Inv := by
  unfold Cartridge.writeMbc1
  split
  · exact ⟨h.rom, h.ram, h.banks, h.bank, h.ramBank, h.low5, fun hn => absurd (hk.symm.trans hn) (by decide)⟩
  split
  · exact Cartridge.Inv.mbc1Recompute
      ⟨h.rom, h.ram, h.banks, h.bank, h.ramBank, mbc1Low5_ne v, fun hn => absurd (hk.symm.trans hn) (by decide)⟩ hk
  split
  · exact Cartridge.Inv.mbc1Recompute ⟨h.rom, h.ram, h.banks, h.bank, h.ramBank, h.low5, h.noController⟩ hk
  · exact Cartridge.Inv.mbc1Recompute ⟨h.rom, h.ram, h.banks, h.bank, h.ramBank, h.low5, h.noController⟩ hk

theorem Cartridge.Inv.writeMbc3 {c : Cartridge} (h : c.Inv) (hk : c.kind = .mbc3) (n : Nat) (v : Byte) :
    (c.writeMbc3 n v).Inv := by
  have hn : c.kind = .none → False := fun hn => absurd (hk.symm.trans hn) (by decide)
  unfold Cartridge.writeMbc3
  split
  · exact ⟨h.rom, h.ram, h.banks, h.bank, h.ramBank, h.low5, fun e => (hn e).elim⟩
  split
  · exact ⟨h.rom, h.ram, h.banks, fun hl => reduceBank_range (h.banks hl).1 _, h.ramBank, h.low5, fun e => (hn e).elim⟩
  split
  · refine ⟨h.rom, h.ram, h.banks, h.bank, ?_, h.low5, fun e => (hn e).elim⟩
    have : ∀ v : Byte, (v &&& 0x03).toNat ≤ 3 := by decide
    exact this v
  · exact h

theorem Cartridge.Inv.writeRam {c : Cartridge} (h : c.Inv) {n : Nat} (v : Byte) (hn : 0xA000 ≤ n ∧ n ≤ 0xBFFF) :
    (c.writeRam n v).Inv := by
  unfold Cartridge.writeRam
  split
  · next hr =>
    refine ⟨h.rom, h.ram.write v ?_, h.banks, h.bank, h.ramBank, h.low5, h.noController⟩
    have hc : 0 < c.ramBankCount := by
      unfold Cartridge.ramReachable at hr
      simp only [Bool.and_eq_true, decide_eq_true_eq] at hr
      exact hr.2
    have hm := Nat.mod_lt c.ramBank hc
    show c.ramBank % c.ramBankCount * ramBankSize + (n - 0xA000) < c.ramBankCount * ramBankSize
    have : (c.ramBank % c.ramBankCount + 1) * ramBankSize ≤ c.ramBankCount * ramBankSize := Nat.mul_le_mul_right _ hm
    unfold ramBankSize at *
    omega
  · exact h

/-! ### Channel 1 -/

theorem Channel1.Inv.sweepTrigger {c : Channel1} (h : c.Inv) : c.sweepTrigger.Inv :=
  ⟨h.freq, h.freq, h.timer, h.sweepAcc, fun _ => sweepReload_range c.period, h.nr10, h.nr11, h.nr14⟩

theorem Channel1.Inv.trigger {c : Channel1} (h : c.Inv) : c.trigger.Inv :=
  Channel1.Inv.sweepTrigger
    ⟨h.freq, h.shadow, Int.natCast_nonneg _, h.sweepAcc, h.sweepTimer, h.nr10, h.nr11, h.nr14⟩

theorem freqLow_le (f : Nat) (v : Byte) : (f &&& 0x700) ||| v.toNat ≤ 2048 := by
  have h1 : f &&& 0x700 < 2 ^ 11 := lt_of_le_of_lt Nat.and_le_right (by decide)
  have h2 : v.toNat < 2 ^ 11 := lt_trans v.isLt (by decide)
  exact (Nat.or_lt_two_pow h1 h2).le

theorem freqHigh_le (f : Nat) (v : Byte) : ((v.toNat &&& 0x07) <<< 8) ||| (f &&& 0xFF) ≤ 2048 := by
  have h1 : (v.toNat &&& 0x07) <<< 8 < 2 ^ 11 := by
    have : v.toNat &&& 0x07 ≤ 7 := Nat.and_le_right
    rw [Nat.shiftLeft_eq]; omega
  have h2 : f &&& 0xFF < 2 ^ 11 := lt_of_le_of_lt Nat.and_le_right (by decide)
  exact (Nat.or_lt_two_pow h1 h2).le

theorem nr10_mask (v : Byte) : v &&& 0x7F &&& 0x80 = 0 := by revert v; decide
theorem nr11_mask (v : Byte) : v &&& 0xC0 &&& 0x3F = 0 := by revert v; decide
theorem nr14_mask (v : Byte) : v &&& 0x40 &&& 0xBF = 0 := by revert v; decide

theorem Channel1.Inv.writeReg {c : Channel1} (h : c.Inv) (n : Nat) (v : Byte) : (c.writeReg n v).Inv := by
  unfold Channel1.writeReg
  split
  · exact ⟨h.freq, h.shadow, h.timer, h.sweepAcc, h.sweepTimer, nr10_mask v, h.nr11, h.nr14⟩
  split
  · exact ⟨h.freq, h.shadow, h.timer, h.sweepAcc, h.sweepTimer, h.nr10, nr11_mask v, h.nr14⟩
  split
  · exact ⟨h.freq, h.shadow, h.timer, h.sweepAcc, h.sweepTimer, h.nr10, h.nr11, h.nr14⟩
  split
  · exact ⟨freqLow_le _ v, h.shadow, h.timer, h.sweepAcc, h.sweepTimer, h.nr10, h.nr11, h.nr14⟩
  · have h' : Channel1.Inv { c with freq := ((v.toNat &&& 0x07) <<< 8) ||| (c.freq &&& 0xFF), nr14 := v &&& 0x40 } :=
      ⟨freqHigh_le _ v, h.shadow, h.timer, h.sweepAcc, h.sweepTimer, h.nr10, h.nr11, nr14_mask v⟩
    unfold Channel1.writeNr14
    dsimp only
    split
    · exact h'.trigger
    · exact h'

/-- What the sweep's loop keeps of the invariant: all but the accumulator, which it lowers. -/
theorem Channel1.sweepLoop_inv {fuel : Nat} {c : Channel1} (hf : c.freq ≤ 2048) (hs : c.shadow ≤ 2048) (ht : 0 ≤ c.timer)
    (hw : c.sweepEnabled = true → 1 ≤ c.sweepTimer ∧ c.sweepTimer ≤ 8) :
    let r := Channel1.sweepLoop fuel c
    r.freq ≤ 2048 ∧ r.shadow ≤ 2048 ∧ 0 ≤ r.timer ∧ (r.sweepEnabled = true → 1 ≤ r.sweepTimer ∧ r.sweepTimer ≤ 8) ∧
      r.nr10 = c.nr10 ∧ r.nr11 = c.nr11 ∧ r.nr14 = c.nr14 := by
  induction fuel generalizing c with
  | zero => exact ⟨hf, hs, ht, hw, rfl, rfl, rfl⟩
  | succ fuel ih =>
    unfold Channel1.sweepLoop
    split
    · generalize hd : ({ c with sweepAcc := c.sweepAcc - Config.sweepDivider } : Channel1) = d
      have e : d.freq = c.freq ∧ d.shadow = c.shadow ∧ d.timer = c.timer ∧ d.sweepEnabled = c.sweepEnabled ∧
          d.sweepTimer = c.sweepTimer ∧ d.nr10 = c.nr10 ∧ d.nr11 = c.nr11 ∧ d.nr14 = c.nr14 := by
        subst hd; exact ⟨rfl, rfl, rfl, rfl, rfl, rfl, rfl, rfl⟩
      obtain ⟨ef, es, et, ew, ev, e10, e11, e14⟩ := e
      have hclk : d.sweepClock.freq ≤ 2048 ∧ d.sweepClock.shadow ≤ 2048 ∧ d.sweepClock.timer = d.timer ∧
          (d.sweepClock.sweepEnabled = true → 1 ≤ d.sweepClock.sweepTimer ∧ d.sweepClock.sweepTimer ≤ 8) ∧
          d.sweepClock.nr10 = d.nr10 ∧ d.sweepClock.nr11 = d.nr11 ∧ d.sweepClock.nr14 = d.nr14 := by
        rw [← ef] at hf; rw [← es] at hs; rw [← ew, ← ev] at hw
        unfold Channel1.sweepClock
        split
        · next hen =>
          split
          · dsimp only
            split
            · exact ⟨hf, hs, rfl, fun _ => sweepReload_range _, rfl, rfl, rfl⟩
            · unfold Channel1.sweepExpire
              dsimp only
              split
              · exact ⟨hf, hs, rfl, fun _ => sweepReload_range _, rfl, rfl, rfl⟩
              · exact ⟨min_le_right _ _, min_le_right _ _, rfl, fun _ => sweepReload_range _, rfl, rfl, rfl⟩
          · next h1 =>
            have := hw hen
            exact ⟨hf, hs, rfl, fun _ => ⟨by dsimp only; omega, by dsimp only; omega⟩, rfl, rfl, rfl⟩
        · exact ⟨hf, hs, rfl, hw, rfl, rfl, rfl⟩
      obtain ⟨cf, cs, ct, cw, c10, c11, c14⟩ := hclk
      have := ih (c := d.sweepClock) cf cs (by rw [ct, et]; exact ht) cw
      obtain ⟨r1, r2, r3, r4, r5, r6, r7⟩ := this
      exact ⟨r1, r2, r3, r4, r5.trans (c10.trans e10), r6.trans (c11.trans e11), r7.trans (c14.trans e14)⟩
    · exact ⟨hf, hs, ht, hw, rfl, rfl, rfl⟩

theorem Channel1.Inv.sweepCycle {c : Channel1} (h : c.Inv) (cycles : Nat) : (c.sweepCycle cycles).Inv := by
  have hl := Channel1.sweepLoop_inv (fuel := c.sweepAcc + cycles) (c := { c with sweepAcc := c.sweepAcc + cycles })
    h.freq h.shadow h.timer h.sweepTimer
  have hs := Channel1.sweepLoop_settled (fuel := c.sweepAcc + cycles) (c := { c with sweepAcc := c.sweepAcc + cycles })
    (le_refl _)
  obtain ⟨r1, r2, r3, r4, r5, r6, r7⟩ := hl
  exact ⟨r1, r2, r3, hs, r4, by rw [show (c.sweepCycle cycles).nr10 = _ from r5]; exact h.nr10,
    by rw [show (c.sweepCycle cycles).nr11 = _ from r6]; exact h.nr11,
    by rw [show (c.sweepCycle cycles).nr14 = _ from r7]; exact h.nr14⟩

/-- The duty timer's loop changes the timer, the position and the latched bit alone. -/
theorem Channel1.dutyLoop_rest {fuel : Nat} {c : Channel1} :
    ∃ t p o, Channel1.dutyLoop fuel c = { c with timer := t, dutyPos := p, out := o } := by
  induction fuel generalizing c with
  | zero => exact ⟨c.timer, c.dutyPos, c.out, rfl⟩
  | succ fuel ih =>
    unfold Channel1.dutyLoop
    split
    · split
      · exact ⟨0, c.dutyPos, c.out, rfl⟩
      · obtain ⟨t, p, o, e⟩ := ih (c := c.dutyAdvance)
        exact ⟨t, p, o, e.trans rfl⟩
    · exact ⟨c.timer, c.dutyPos, c.out, rfl⟩

theorem Channel1.Inv.dutyCycle {c : Channel1} (h : c.Inv) (cycles : Nat) : (c.dutyCycle cycles).Inv := by
  have hs := Channel1.dutyLoop_settled (fuel := (cycles - c.timer).toNat) (c := { c with timer := c.timer - cycles })
    (by dsimp only; omega)
  obtain ⟨t, p, o, e⟩ := Channel1.dutyLoop_rest (fuel := (cycles - c.timer).toNat) (c := { c with timer := c.timer - cycles })
  have e' : c.dutyCycle cycles = { c with timer := t, dutyPos := p, out := o } := e
  rw [e]  at hs
  rw [e']
  exact ⟨h.freq, h.shadow, hs, h.sweepAcc, h.sweepTimer, h.nr10, h.nr11, h.nr14⟩

theorem Channel1.Inv.envelopeLength {c : Channel1} (h : c.Inv) (volume : BitVec 4) (expiry : Bool) :
    (c.envelopeLength volume expiry).Inv :=
  ⟨h.freq, h.shadow, h.timer, h.sweepAcc, h.sweepTimer, h.nr10, h.nr11, h.nr14⟩

/-! ### The timer -/

theorem Timer.Inv.writeReg {t : Timer} (h : t.Inv) (n : Nat) (v : Byte) : (t.writeReg n v).Inv := by
  unfold Timer.writeReg
  split
  · exact ⟨h.countdown⟩
  split
  · exact ⟨h.countdown⟩
  split
  · exact ⟨h.countdown⟩
  · exact ⟨h.countdown⟩

/-- A timer step keeps the timer's invariant, whose countdown every tick of at least one M-cycle runs out. -/
theorem Timer.Inv.step {t : Timer} (h : t.Inv) {cycles : Nat} (hc : 4 ≤ cycles) : (t.step cycles).1.Inv := by
  have hr : (t.reload cycles).1.Inv := by
    unfold Timer.reload
    dsimp only
    split
    · next hp =>
      have := h.countdown hp
      rw [if_pos (by rw [this]; unfold Config.timaReloadDelay; omega)]
      exact ⟨fun e => absurd e (by simp)⟩
    · next hp => exact ⟨fun e => absurd e hp⟩
  show ((t.reload cycles).1.advance cycles).Inv
  unfold Timer.advance
  split
  · exact Timer.count_inv ⟨hr.countdown⟩
  · exact hr

/-! ### The bus -/

theorem ownsKey_iflags : ownsKey 0xFF0F := by unfold ownsKey isExternal; decide

theorem Bus.Inv.writeIo {b : Bus} (h : b.Inv) {a : Word} (v : Byte) (ha : 0xFF00 ≤ a.toNat ∧ a.toNat ≤ 0xFF7F) :
    (b.writeIo a v).Inv := by
  unfold Bus.writeIo
  dsimp only
  split
  · exact ⟨h.mem, h.timer.writeReg _ v, h.ch1, h.cart, h.boot⟩
  split
  · exact ⟨h.mem, h.timer, h.ch1.writeReg _ v, h.cart, h.boot⟩
  split
  · exact h
  split
  · exact ⟨h.mem, h.timer, h.ch1, h.cart, h.boot⟩
  · next ht hc he _ =>
    refine ⟨h.mem.write v ?_, h.timer, h.ch1, h.cart, h.boot⟩
    exact .inr (.inr (.inr ⟨ha.1, le_trans ha.2 (by decide), ht, hc, by simpa using he⟩))

/-- A CPU store keeps the bus well-formed. -/
theorem Bus.Inv.write {b : Bus} (h : b.Inv) (a : Word) (v : Byte) : (b.write a v).Inv := by
  have ha : a.toNat < 0x10000 := a.isLt
  have hmem : ∀ key, ownsKey key → ({ b with mem := Memory.write b.mem key v } : Bus).Inv :=
    fun key hk => ⟨h.mem.write v hk, h.timer, h.ch1, h.cart, h.boot⟩
  unfold Bus.write
  dsimp only
  split
  · exact ⟨h.mem, h.timer, h.ch1, h.cart, ⟨h.boot.image, fun e => absurd e (by simp)⟩⟩
  split
  · unfold Bus.writeRom
    split
    · exact ⟨h.mem, h.timer, h.ch1, h.cart, h.boot⟩
    · next hk => exact ⟨h.mem, h.timer, h.ch1, h.cart.writeMbc1 hk _ v, h.boot⟩
    · next hk => exact ⟨h.mem, h.timer, h.ch1, h.cart.writeMbc3 hk _ v, h.boot⟩
  split
  · exact hmem _ (.inl ⟨by omega, by omega⟩)
  split
  · exact ⟨h.mem, h.timer, h.ch1, h.cart.writeRam v ⟨by omega, by omega⟩, h.boot⟩
  split
  · exact hmem _ (.inr (.inl ⟨by omega, by omega⟩))
  split
  · exact hmem _ (.inr (.inl ⟨by omega, by omega⟩))
  split
  · exact hmem _ (.inr (.inr (.inl ⟨by omega, by omega⟩)))
  split
  · exact h
  split
  · exact h.writeIo v ⟨by omega, by omega⟩
  · refine hmem _ (.inr (.inr (.inr ⟨by omega, by omega, by omega, by omega, ?_⟩)))
    unfold isExternal
    simp only [Bool.or_eq_false_iff, Bool.and_eq_false_iff, decide_eq_false_iff_not, beq_eq_false_iff_ne]
    omega

/-- A CPU read keeps the bus well-formed. -/
theorem Bus.Inv.afterRead {b : Bus} (h : b.Inv) (a : Word) : (b.afterRead a).Inv :=
  ⟨by rw [Bus.afterRead_mem]; exact h.mem, by rw [Bus.afterRead_timer]; exact h.timer,
    by rw [Bus.afterRead_ch1]; exact h.ch1, by rw [Bus.afterRead_cart]; exact h.cart,
    by rw [Bus.afterRead_boot]; exact h.boot⟩

theorem Bus.Inv.requestInterrupt {b : Bus} (h : b.Inv) (k : IrqKind) : (b.requestInterrupt k).Inv :=
  ⟨h.mem.write _ ownsKey_iflags, h.timer, h.ch1, h.cart, h.boot⟩

theorem Bus.Inv.clearInterrupt {b : Bus} (h : b.Inv) (k : IrqKind) : (b.clearInterrupt k).Inv :=
  ⟨h.mem.write _ ownsKey_iflags, h.timer, h.ch1, h.cart, h.boot⟩

/-- The devices' advance of a tick keeps the bus well-formed. -/
theorem Bus.Inv.advance {b : Bus} (h : b.Inv) {cycles : Nat} (hc : 4 ≤ cycles) : (b.advance cycles).Inv := by
  have ht : (b.timerStep cycles).Inv := by
    have h' : ({ b with timer := (b.timer.step cycles).1 } : Bus).Inv :=
      ⟨h.mem, h.timer.step hc, h.ch1, h.cart, h.boot⟩
    unfold Bus.timerStep
    dsimp only
    split
    · exact h'.requestInterrupt _
    · exact h'
  exact ⟨ht.mem, ht.timer, ((ht.ch1.envelopeLength _ _).sweepCycle cycles).dutyCycle cycles, ht.cart, ht.boot⟩

/-! ### The registers -/

/-- Flag effects leave F's low bits zero (R21). -/
theorem Regs.putFlags_low (x : Regs) (z n h c : Option Bool) : (x.putFlags z n h c).f &&& 0x0F = 0 := by
  rw [Regs.putFlags_f]; exact flagByte_low _ _ _ _

/-- Writing AF leaves F's low bits zero (R21, R22). -/
theorem Regs.setAf_low (x : Regs) (v : Word) : (x.setAf v).f &&& 0x0F = 0 := by
  have : ∀ f : Byte, f &&& 0xF0 &&& 0x0F = 0 := by decide
  exact this _

end Sys2Proof.Machine
end

