-- ==== Sys2Proof/Laws/Ops.lean ====
section
/-! SUPPORT. One lemma per shared operation that says everything it does: retiring an instruction, the interrupt check, the
CPU step's outcomes, a bus call. -/

namespace Sys2Proof.Machine

/-! ### Retiring an instruction (R120 steps 3 and 4) -/

/-- An unconditional instruction: its effect on the state with the halt bug consumed, then pc and cycles. -/
theorem runFixed_eq (len cost : Nat) (effect : State → State) (s : State) :
    runFixed len cost effect s =
      .next
        { effect s.consumeHaltBug with
          pc := if s.haltBug then (effect s.consumeHaltBug).pc else (effect s.consumeHaltBug).pc + BitVec.ofNat 16 len
          cycles := (effect s.consumeHaltBug).cycles + cost } := by
  unfold runFixed State.advancePc State.charge
  cases s.haltBug <;> rfl

/-- An instruction that writes `pc` itself. -/
theorem runJump_eq (cost : Nat) (effect : State → State) (s : State) :
    runJump cost effect s =
      .next { effect s.consumeHaltBug with cycles := (effect s.consumeHaltBug).cycles + cost } := rfl

/-- A branching instruction that is taken. -/
theorem runBranch_taken (len costTaken costNotTaken : Nat) (effect : State → State) (s : State) :
    runBranch true len costTaken costNotTaken effect s =
      .next { effect s.consumeHaltBug with cycles := (effect s.consumeHaltBug).cycles + costTaken } := rfl

/-- A branching instruction that is not taken. -/
theorem runBranch_notTaken (len costTaken costNotTaken : Nat) (effect : State → State) (s : State) :
    runBranch false len costTaken costNotTaken effect s = .next (s.retired len costNotTaken) := by
  unfold runBranch State.advancePc State.charge State.retired
  cases s.haltBug <;> rfl

/-! ### The step -/

/-- The interrupt check leaves the state as it is, or services the selected interrupt. -/
theorem State.checkInterrupts_cases (s : State) (imeAtEntry : Bool) :
    s.checkInterrupts imeAtEntry = s ∨
      ∃ k, imeAtEntry = true ∧ s.ime = true ∧ s.bus.selectInterrupt = some k ∧
        s.checkInterrupts imeAtEntry = s.serviceInterrupt k := by
  unfold State.checkInterrupts
  cases imeAtEntry <;> cases hi : s.ime <;> simp only [Bool.and_self, Bool.and_false, Bool.false_and, if_true]
  · exact .inl rfl
  · exact .inl rfl
  · exact .inl rfl
  · cases hk : s.bus.selectInterrupt with
    | none => exact .inl rfl
    | some k => exact .inr ⟨k, trivial, trivial, rfl, rfl⟩

/-- A step that gives a next state: the run has not ended, a cartridge is loaded, and the CPU step gave a state whose devices
then advanced (R131). -/
theorem step_next {s t : State} (h : step s = .next t) :
    s.canStep ∧ ∃ u, cpuStep s = .next u ∧ t = s.advanceDevices u := by
  unfold step machineTick at h
  cases hs : s.stop with
  | some m => rw [hs] at h; cases m <;> exact absurd h (by simp)
  | none =>
    rw [hs] at h
    cases hl : s.bus.cart.loaded with
    | false => rw [hl] at h; exact absurd h (by simp)
    | true =>
      rw [hl] at h
      simp only [if_true] at h
      cases hc : cpuStep s with
      | next u => rw [hc] at h; exact ⟨⟨hs, hl⟩, u, rfl, by simpa [onNext] using h.symm⟩
      | fault r => rw [hc] at h; exact absurd h (by simp [onNext])
      | refused r => rw [hc] at h; exact absurd h (by simp [onNext])

/-- The step inside the model is the CPU step and the devices' advance. -/
theorem step_canStep {s : State} (h : s.canStep) : step s = onNext (cpuStep s) s.advanceDevices := by
  unfold step machineTick
  rw [h.1, h.2]
  rfl

/-- A fetch leaves everything but the bus, of which it leaves what reads leave (R68). -/
theorem State.fetch_rest (s : State) :
    s.fetch.2 = { s with bus := s.fetch.2.bus } ∧ s.fetch.2.bus.mem = s.bus.mem ∧ s.fetch.2.bus.timer = s.bus.timer ∧
      s.fetch.2.bus.ch1 = s.bus.ch1 ∧ s.fetch.2.bus.cart = s.bus.cart ∧ s.fetch.2.bus.boot = s.bus.boot := by
  unfold State.fetch
  dsimp only
  split
  · simp [State.afterRead]
  · split <;> simp [State.afterRead]

/-- A fetch keeps the state well-formed. -/
theorem State.fetch_inv {s : State} (h : s.Inv) : s.fetch.2.Inv := by
  unfold State.fetch
  dsimp only
  split
  · exact ⟨h.lowF, h.bus.afterRead _⟩
  · split
    · exact ⟨h.lowF, (h.bus.afterRead _).afterRead _⟩
    · exact ⟨h.lowF, ((h.bus.afterRead _).afterRead _).afterRead _⟩

/-! ### Bus calls at any address (R64, R250) -/

/-- A call outside the address space leaves the ended run. -/
theorem State.busCall_outside (s : State) {addr : Nat} (effect : Word → State) (h : 0xFFFF < addr) :
    s.busCall addr effect = s.endRun (.fault (.addressOutOfRange addr)) := if_pos h

/-- A call inside it leaves its effect. -/
theorem State.busCall_inside (s : State) (a : Word) (effect : Word → State) : s.busCall a.toNat effect = effect a := by
  unfold State.busCall
  rw [if_neg (by have := a.isLt; omega)]
  simp

/-- The run ended keeps everything but the mark, and the mark where there is one. -/
@[simp] theorem State.endRun_running (s : State) (m : StopMark) (h : s.stop = none) :
    s.endRun m = { s with stop := some m } := by
  unfold State.endRun
  rw [h]
  rfl

/-- An unchecked write keeps the bus well-formed (R53). -/
theorem Bus.Inv.writeAny {b : Bus} (h : b.Inv) (a : Word) (v : Byte) : (b.writeAny a v).Inv := by
  unfold Bus.writeAny
  split
  · exact ⟨h.mem.write _ (by unfold ownsKey isExternal; decide), h.timer, h.ch1, h.cart, h.boot⟩
  · exact h.write a v

/-- A bus call keeps the state well-formed where its effect does. -/
theorem State.Inv.busCall {s : State} (h : s.Inv) {effect : Word → State} (he : ∀ a, (effect a).Inv) (addr : Nat) :
    (s.busCall addr effect).Inv := by
  unfold State.busCall
  split
  · exact ⟨h.lowF, h.bus⟩
  · exact he _

end Sys2Proof.Machine
end

