-- ==== Sys2Proof/Laws/Retire.lean ====
section
/-! SUPPORT. What executing one instruction can do, said once for all of them: its effect on the control state and the bus,
then the pc advance or its own jump, then its cost. The statements over all instructions follow from `retires` with no
case per instruction of their own. -/

namespace Sys2Proof.Machine

/-! ### The bus under an instruction's reads and stores -/

/-- What a bus keeps for good: the images, the cartridge's kind, counts and flags, the overlay's parameters; an overlay that is
not active stays so (R38, R56). -/
structure Bus.SameImages (b b' : Bus) : Prop where
  rom : b'.cart.rom = b.cart.rom
  romLength : b'.cart.romLength = b.cart.romLength
  supportsCgb : b'.cart.supportsCgb = b.cart.supportsCgb
  requiresCgb : b'.cart.requiresCgb = b.cart.requiresCgb
  kind : b'.cart.kind = b.cart.kind
  romBankCount : b'.cart.romBankCount = b.cart.romBankCount
  ramBankCount : b'.cart.ramBankCount = b.cart.ramBankCount
  loaded : b'.cart.loaded = b.cart.loaded
  image : b'.boot.image = b.boot.image
  offAddr : b'.boot.offAddr = b.boot.offAddr
  active : b'.boot.active = true → b.boot.active = true

theorem Bus.SameImages.refl (b : Bus) : b.SameImages b := by constructor <;> first | rfl | exact id

theorem Bus.SameImages.trans {b b' b'' : Bus} (h : b.SameImages b') (h' : b'.SameImages b'') : b.SameImages b'' :=
  ⟨h'.rom.trans h.rom, h'.romLength.trans h.romLength, h'.supportsCgb.trans h.supportsCgb,
    h'.requiresCgb.trans h.requiresCgb, h'.kind.trans h.kind, h'.romBankCount.trans h.romBankCount,
    h'.ramBankCount.trans h.ramBankCount, h'.loaded.trans h.loaded, h'.image.trans h.image,
    h'.offAddr.trans h.offAddr, fun ha => h.active (h'.active ha)⟩

theorem Bus.SameImages.afterRead (b : Bus) (a : Word) : b.SameImages (b.afterRead a) := by
  constructor <;> simp

/-- A store keeps them (R38, R54, R56). -/
theorem Bus.SameImages.write (b : Bus) (a : Word) (v : Byte) : b.SameImages (b.write a v) := by
  have same : ∀ b' : Bus, b'.cart = b.cart → b'.boot = b.boot → b.SameImages b' := fun b' hc hb => by
    constructor <;> simp [hc, hb]
  have mbc1 : ∀ n, b.SameImages { b with cart := b.cart.writeMbc1 n v } := fun n => by
    unfold Cartridge.writeMbc1; split_ifs <;> constructor <;> first | rfl | exact id
  have mbc3 : ∀ n, b.SameImages { b with cart := b.cart.writeMbc3 n v } := fun n => by
    unfold Cartridge.writeMbc3; split_ifs <;> constructor <;> first | rfl | exact id
  have ram : ∀ n, b.SameImages { b with cart := b.cart.writeRam n v } := fun n => by
    unfold Cartridge.writeRam; split <;> constructor <;> first | rfl | exact id
  have rom : b.SameImages (b.writeRom a v) := by
    unfold Bus.writeRom
    split
    · exact same _ rfl rfl
    · exact mbc1 _
    · exact mbc3 _
  have io := Bus.writeIo_rest b a v
  unfold Bus.write
  dsimp only
  split
  · constructor <;> first | rfl | exact fun h => absurd h (by simp)
  split
  · exact rom
  split
  · exact same _ rfl rfl
  split
  · exact ram _
  split
  · exact same _ rfl rfl
  split
  · exact same _ rfl rfl
  split
  · exact same _ rfl rfl
  split
  · exact .refl b
  split
  · exact same _ io.1 io.2.1
  · exact same _ rfl rfl

/-- What a bus becomes by reads and by the stores `w`: the bytes they do not reach read as before, well-formedness and the
images are kept. -/
structure BusEffect (w : StoredBytes) (b b' : Bus) : Prop where
  frame : ∀ a : Word, isExternal a.toNat = false → ¬w.reach b a → b'.read a = b.read a
  inv : b.Inv → b'.Inv
  images : b.SameImages b'

theorem BusEffect.refl (w : StoredBytes) (b : Bus) : BusEffect w b b := ⟨fun _ _ _ => rfl, id, .refl b⟩

theorem BusEffect.read {w : StoredBytes} {b b' : Bus} (h : BusEffect w b b') (a : Word) :
    BusEffect w b (b'.afterRead a) :=
  ⟨fun a' he hw => (Bus.read_afterRead he).trans (h.frame a' he hw), fun hb => (h.inv hb).afterRead a,
    h.images.trans (.afterRead b' a)⟩

/-- Which stores reach a byte depends on the overlay alone. -/
theorem Bus.storeReaches_congr {b b' : Bus} (h : b'.boot = b.boot) (a a' : Word) :
    b'.storeReaches a a' ↔ b.storeReaches a a' := by unfold Bus.storeReaches; rw [h]

theorem BusEffect.store (b : Bus) (a : Word) (v : Byte) : BusEffect (.one a) b (b.write a v) :=
  ⟨fun _ _ hw => Bus.read_write_other v hw, fun hb => hb.write a v, .write b a v⟩

/-- A read-modify-write at one address. -/
theorem BusEffect.readStore (b : Bus) (a : Word) (v : Byte) : BusEffect (.one a) b ((b.afterRead a).write a v) :=
  ⟨fun _ he hw =>
      (Bus.read_write_other v fun h => hw ((Bus.storeReaches_congr (Bus.afterRead_boot b a) a _).mp h)).trans
        (Bus.read_afterRead he),
    fun hb => (hb.afterRead a).write a v, (Bus.SameImages.afterRead b a).trans (.write _ a v)⟩

theorem BusEffect.store2 (b : Bus) (a : Word) (v : Byte) (a' : Word) (v' : Byte) :
    BusEffect (.two a v a') b ((b.write a v).write a' v') :=
  ⟨fun _ _ hw =>
      (Bus.read_write_other v' fun h => hw (.inr h)).trans (Bus.read_write_other v fun h => hw (.inl h)),
    fun hb => (hb.write a v).write a' v', (Bus.SameImages.write b a v).trans (.write _ a' v')⟩

/-! ### Executing one instruction -/

/-- The effect of an instruction from `s`, whose halt bug is consumed, up to `e`, before the pc advance and the cost. -/
structure Effect (i : Instr) (s e : State) : Prop where
  ime : e.ime = s.ime ∨ i = .di ∨ i = .ei ∨ i = .reti
  halted : e.halted = s.halted ∨ i = .halt
  haltBug : e.haltBug = true → i = .halt ∧ s.ime = false
  cycles : e.cycles = s.cycles
  stopMode : e.stopMode = s.stopMode
  stop : e.stop = s.stop
  lowF : s.regs.f &&& 0x0F = 0 → e.regs.f &&& 0x0F = 0
  bus : BusEffect (storesOf i s) s.bus e.bus

/-- The state with a given halt-bug mark. -/
def State.withBug (s : State) (bug : Bool) : State := { s with haltBug := bug }

/-- An instruction retired after its effect `e`, from the pc `pc` and with a given halt-bug mark: either it wrote the pc
itself, or the pc advances by its length unless the mark was pending (R124, R127, R130). -/
def retiredFrom (jumps : Bool) (pc : Word) (len cost : Nat) (e : State) (bug : Bool) : State :=
  { e with
    pc := if jumps then e.pc else if bug then pc else pc + BitVec.ofNat 16 len
    cycles := e.cycles + cost }

/-- What an instruction answers from `s` with either halt-bug mark; `jumps` says whether it wrote the pc itself. -/
structure Retires (i : Instr) (s e : State) (jumps : Bool) (cost : Nat) : Prop where
  effect : Effect i s.consumeHaltBug e
  writes : writesPc i s = jumps
  range : 1 ≤ cost ∧ cost ≤ 6
  exec : ∀ bug, exec i (s.withBug bug) = .next (retiredFrom jumps s.pc (encode i).length cost e bug)

theorem Retires.fixed {i : Instr} {s : State} {len cost : Nat} {eff : State → State}
    (he : ∀ bug, Machine.exec i (s.withBug bug) = runFixed len cost eff (s.withBug bug)) (hc : 1 ≤ cost ∧ cost ≤ 6)
    (hl : (encode i).length = len) (hp : (eff s.consumeHaltBug).pc = s.pc) (h : Effect i s.consumeHaltBug (eff s.consumeHaltBug))
    (hj : writesPc i s = false := by first | rfl | assumption) : Retires i s (eff s.consumeHaltBug) false cost :=
  ⟨h, hj, hc, fun bug => by
    have h : ∀ p, p = s.pc →
        (Host.Outcome.next
          { eff s.consumeHaltBug with
            pc := if bug then p else p + BitVec.ofNat 16 len, cycles := (eff s.consumeHaltBug).cycles + cost } : Result) =
          .next (retiredFrom false s.pc len cost (eff s.consumeHaltBug) bug) := by rintro _ rfl; rfl
    rw [he, runFixed_eq, hl]
    exact h _ hp⟩

theorem Retires.jump {i : Instr} {s : State} {cost : Nat} {eff : State → State}
    (he : ∀ bug, Machine.exec i (s.withBug bug) = runJump cost eff (s.withBug bug)) (hc : 1 ≤ cost ∧ cost ≤ 6)
    (h : Effect i s.consumeHaltBug (eff s.consumeHaltBug)) (hj : writesPc i s = true := by first | rfl | assumption) :
    Retires i s (eff s.consumeHaltBug) true cost :=
  ⟨h, hj, hc, fun bug => by rw [he, runJump_eq]; rfl⟩

theorem Effect.same (i : Instr) (s : State) : Effect i s.consumeHaltBug s.consumeHaltBug :=
  ⟨.inl rfl, .inl rfl, fun h => absurd h (by simp [State.consumeHaltBug]), rfl, rfl, rfl, id, .refl _ _⟩

theorem Retires.branch {i : Instr} {s : State} {taken : Bool} {len c c' : Nat} {eff : State → State}
    (he : ∀ bug, Machine.exec i (s.withBug bug) = runBranch taken len c c' eff (s.withBug bug)) (hc : 1 ≤ c ∧ c ≤ 6)
    (hc' : 1 ≤ c' ∧ c' ≤ 6) (hl : (encode i).length = len) (hj : writesPc i s = taken)
    (h : taken = true → Effect i s.consumeHaltBug (eff s.consumeHaltBug)) : ∃ e jumps cost, Retires i s e jumps cost := by
  cases taken with
  | true => exact ⟨_, true, c, h rfl, hj, hc, fun bug => by rw [he, runBranch_taken]; rfl⟩
  | false =>
    exact ⟨_, false, c', .same i s, hj, hc', fun bug => by rw [he, runBranch_notTaken, hl]; rfl⟩

/-! ### Building effects -/

/-- An effect on the registers, `sp` and the bus alone. -/
theorem Effect.plain {i : Instr} {s : State} (e : State) (hf : s.regs.f &&& 0x0F = 0 → e.regs.f &&& 0x0F = 0)
    (hb : BusEffect (storesOf i s.consumeHaltBug) s.bus e.bus)
    (h : e = { s with regs := e.regs, pc := e.pc, sp := e.sp, haltBug := false, bus := e.bus }) :
    Effect i s.consumeHaltBug e := by
  refine ⟨.inl ?_, .inl ?_, fun hh => ?_, ?_, ?_, ?_, hf, hb⟩
  all_goals first | (rw [h]; rfl) | (rw [h] at hh; exact absurd hh (by simp))

theorem Regs.set_low {x : Regs} {r : Reg8} {v : Byte} (h : x.f &&& 0x0F = 0) : (x.set r v).f &&& 0x0F = 0 := by
  rw [Regs.set_f]; exact h

/-- F's low bits after the flags of an effect on registers (R21). -/
theorem State.putFlags_low (s : State) (z n h c : Option Bool) : (s.putFlags z n h c).regs.f &&& 0x0F = 0 :=
  Regs.putFlags_low s.regs z n h c

/-- A push of `v` (R166). -/
theorem push_effect (s : State) (v : Word) : BusEffect (s.pushed v) s.bus (s.push16 v).bus := by
  have h := BusEffect.store2 s.bus (s.sp - 1) (highByte v) (s.sp - 1 - 1) (lowByte v)
  have hs : s.sp - 1 - 1 = s.sp - 2 := by bv_omega
  rw [hs] at h
  show BusEffect _ _ ((s.bus.write (s.sp - 1) (highByte v)).write (s.sp - 1 - 1) (lowByte v))
  rw [hs]
  exact h

theorem retires_loadRegReg (dst src : Reg8) (s : State) : ∃ e jumps cost, Retires (loadRegReg dst src) s e jumps cost := by
  have hj : writesPc (loadRegReg dst src) s = false := by cases dst <;> cases src <;> rfl
  exact ⟨_, _, _, Retires.fixed (fun bug => exec_loadRegReg dst src _) ⟨by decide, by decide⟩
    (by cases dst <;> cases src <;> rfl) (rfl)
    (Effect.plain _ (Regs.set_low) (.refl _ _) rfl)⟩

theorem retires_loadRegImm (dst : Reg8) (n8 : Byte) (s : State) :
    ∃ e jumps cost, Retires (loadRegImm dst n8) s e jumps cost := by
  have hj : writesPc (loadRegImm dst n8) s = false := by cases dst <;> rfl
  exact ⟨_, _, _, Retires.fixed (fun bug => exec_loadRegImm dst n8 _) ⟨by decide, by decide⟩ (by cases dst <;> rfl) (rfl)
    (Effect.plain _ (Regs.set_low) (.refl _ _) rfl)⟩

theorem retires_loadRegMem (dst : Reg8) (s : State) : ∃ e jumps cost, Retires (loadRegMem dst) s e jumps cost := by
  have hj : writesPc (loadRegMem dst) s = false := by cases dst <;> rfl
  exact ⟨_, _, _, Retires.fixed (fun bug => exec_loadRegMem dst _) ⟨by decide, by decide⟩ (by cases dst <;> rfl) (rfl)
    (Effect.plain _ (Regs.set_low) ((BusEffect.refl _ _).read _) rfl)⟩

theorem retires_storeMemReg (src : Reg8) (s : State) : ∃ e jumps cost, Retires (storeMemReg src) s e jumps cost := by
  have hj : writesPc (storeMemReg src) s = false := by cases src <;> rfl
  have hw : ∀ s, storesOf (storeMemReg src) s = .one s.hl := fun s => by cases src <;> rfl
  exact ⟨_, _, _, Retires.fixed (fun bug => exec_storeMemReg src _) ⟨by decide, by decide⟩ (by cases src <;> rfl) (rfl)
    (Effect.plain _ (id) (by rw [hw]; exact .store _ _ _) rfl)⟩

theorem retires_loadPairImm (p : Pair) (n16 : Word) (s : State) :
    ∃ e jumps cost, Retires (loadPairImm p n16) s e jumps cost := by
  cases p <;>
    exact ⟨_, _, _, Retires.fixed (fun bug => exec_loadPairImm _ n16 _) ⟨by decide, by decide⟩
      rfl rfl (Effect.plain _ (id) (.refl _ _) rfl)⟩

theorem retires_addHlPair (p : Pair) (s : State) : ∃ e jumps cost, Retires (addHlPair p) s e jumps cost := by
  cases p <;>
    exact ⟨_, _, _, Retires.fixed (fun bug => exec_addHlPair _ _) ⟨by decide, by decide⟩
      rfl rfl (Effect.plain _ (fun _ => State.putFlags_low _ _ _ _ _) (.refl _ _) rfl)⟩

theorem retires_incPair (p : Pair) (s : State) : ∃ e jumps cost, Retires (incPair p) s e jumps cost := by
  cases p <;>
    exact ⟨_, _, _, Retires.fixed (fun bug => exec_incPair _ _) ⟨by decide, by decide⟩
      rfl rfl (Effect.plain _ (id) (.refl _ _) rfl)⟩

theorem retires_decPair (p : Pair) (s : State) : ∃ e jumps cost, Retires (decPair p) s e jumps cost := by
  have hj : writesPc (decPair p) s = false := by cases p <;> rfl
  obtain ⟨step, he⟩ : ∃ step, ∀ s, exec (decPair p) s = runStepPair p step s := ⟨_, exec_decPair p⟩
  cases p <;>
    exact ⟨_, _, _, Retires.fixed (fun bug => he _) ⟨by decide, by decide⟩ rfl rfl (Effect.plain _ id (.refl _ _) rfl)⟩

theorem retires_pushPair (p : StackPair) (s : State) : ∃ e jumps cost, Retires (pushPair p) s e jumps cost := by
  have hj : writesPc (pushPair p) s = false := by cases p <;> rfl
  have hw : ∀ s, storesOf (pushPair p) s = s.pushed (s.stackPair p) := fun s => by cases p <;> rfl
  exact ⟨_, _, _, Retires.fixed (fun bug => exec_pushPair p _) ⟨by decide, by decide⟩ (by cases p <;> rfl) (rfl)
    (Effect.plain _ (id) (by rw [hw]; exact push_effect _ _) rfl)⟩

theorem retires_popPair (p : StackPair) (s : State) : ∃ e jumps cost, Retires (popPair p) s e jumps cost := by
  cases p
  case af =>
    exact ⟨_, _, _, Retires.fixed (fun bug => exec_popPair .af _) ⟨by decide, by decide⟩ rfl rfl
      (Effect.plain _ (fun _ => Regs.setAf_low _ _) (((BusEffect.refl _ _).read _).read _) rfl)⟩
  all_goals
    exact ⟨_, _, _, Retires.fixed (fun bug => exec_popPair _ _) ⟨by decide, by decide⟩ rfl rfl
      (Effect.plain _ id (((BusEffect.refl _ _).read _).read _) rfl)⟩

theorem retires_incTarget (t : Target) (s : State) : ∃ e jumps cost, Retires (incTarget t) s e jumps cost := by
  have hj : writesPc (incTarget t) s = false := by rcases t with (_ | _ | _ | _ | _ | _ | _) | _ <;> rfl
  cases t with
  | reg r =>
    exact ⟨_, _, _, Retires.fixed (cost := 1) (fun bug => exec_incTarget (.reg r) _) ⟨by decide, by decide⟩
      (by cases r <;> rfl) rfl
      (Effect.plain _ (fun _ => State.putFlags_low _ _ _ _ _) (.refl _ _) rfl)⟩
  | atHl =>
    exact ⟨_, _, _, Retires.fixed (fun bug => exec_incTarget .atHl _) ⟨by decide, by decide⟩ rfl rfl
      (Effect.plain _ (fun _ => State.putFlags_low _ _ _ _ _) (.readStore _ _ _) rfl)⟩

theorem retires_decTarget (t : Target) (s : State) : ∃ e jumps cost, Retires (decTarget t) s e jumps cost := by
  have hj : writesPc (decTarget t) s = false := by rcases t with (_ | _ | _ | _ | _ | _ | _) | _ <;> rfl
  cases t with
  | reg r =>
    exact ⟨_, _, _, Retires.fixed (cost := 1) (fun bug => exec_decTarget (.reg r) _) ⟨by decide, by decide⟩
      (by cases r <;> rfl) rfl
      (Effect.plain _ (fun _ => State.putFlags_low _ _ _ _ _) (.refl _ _) rfl)⟩
  | atHl =>
    exact ⟨_, _, _, Retires.fixed (fun bug => exec_decTarget .atHl _) ⟨by decide, by decide⟩ rfl rfl
      (Effect.plain _ (fun _ => State.putFlags_low _ _ _ _ _) (.readStore _ _ _) rfl)⟩

theorem retires_runRot (op : RotOp) (t : Target) (i : Instr) (s : State) (he : ∀ s, exec i s = runRot op t s)
    (hl : (encode i).length = 2 ∧ writesPc i s = false) (hw : t = .atHl → ∀ s, storesOf i s = .one s.hl) :
    ∃ e jumps cost, Retires i s e jumps cost := by
  have hj := hl.2
  cases t with
  | reg r =>
    exact ⟨_, _, _, Retires.fixed (len := 2) (cost := 2) (fun bug => he _) ⟨by decide, by decide⟩ hl.1 rfl
      (Effect.plain _ (fun _ => State.putFlags_low _ _ _ _ _) (.refl _ _) rfl)⟩
  | atHl =>
    exact ⟨_, _, _, Retires.fixed (len := 2) (cost := 4) (fun bug => he _) ⟨by decide, by decide⟩ hl.1 rfl
      (Effect.plain _ (fun _ => State.putFlags_low _ _ _ _ _) (by rw [hw rfl]; exact .readStore _ _ _) rfl)⟩

theorem retires_rotInstr (op : RotOp) (t : Target) (s : State) :
    ∃ e jumps cost, Retires (rotInstr op t) s e jumps cost :=
  retires_runRot op t _ s (exec_rotInstr op t)
    (by cases op <;> rcases t with (_ | _ | _ | _ | _ | _ | _) | _ <;> exact ⟨rfl, rfl⟩)
    (fun ht s => by subst ht; cases op <;> rfl)

theorem retires_runBit (n : Fin 8) (t : Target) (i : Instr) (s : State) (he : ∀ s, exec i s = runBit n t s)
    (hl : (encode i).length = 2 ∧ writesPc i s = false) : ∃ e jumps cost, Retires i s e jumps cost := by
  have hj := hl.2
  cases t with
  | reg r =>
    exact ⟨_, _, _, Retires.fixed (len := 2) (cost := 2) (fun bug => he _) ⟨by decide, by decide⟩ hl.1 rfl
      (Effect.plain _ (fun _ => State.putFlags_low _ _ _ _ _) (.refl _ _) rfl)⟩
  | atHl =>
    exact ⟨_, _, _, Retires.fixed (len := 2) (cost := 3) (fun bug => he _) ⟨by decide, by decide⟩ hl.1 rfl
      (Effect.plain _ (fun _ => State.putFlags_low _ _ _ _ _) ((BusEffect.refl _ _).read _) rfl)⟩

theorem retires_bitInstr (n : Fin 8) (t : Target) (s : State) :
    ∃ e jumps cost, Retires (bitInstr n t) s e jumps cost :=
  retires_runBit n t _ s (exec_bitInstr n t)
    (by fin_cases n <;> rcases t with (_ | _ | _ | _ | _ | _ | _) | _ <;> exact ⟨rfl, rfl⟩)

theorem retires_runRes (n : Fin 8) (t : Target) (i : Instr) (s : State) (he : ∀ s, exec i s = runRes n t s)
    (hl : (encode i).length = 2 ∧ writesPc i s = false) (hw : t = .atHl → ∀ s, storesOf i s = .one s.hl) :
    ∃ e jumps cost, Retires i s e jumps cost := by
  have hj := hl.2
  cases t with
  | reg r =>
    exact ⟨_, _, _, Retires.fixed (len := 2) (cost := 2) (fun bug => he _) ⟨by decide, by decide⟩ hl.1 rfl
      (Effect.plain _ Regs.set_low (.refl _ _) rfl)⟩
  | atHl =>
    exact ⟨_, _, _, Retires.fixed (len := 2) (cost := 4) (fun bug => he _) ⟨by decide, by decide⟩ hl.1 rfl
      (Effect.plain _ id (by rw [hw rfl]; exact .readStore _ _ _) rfl)⟩

theorem retires_resInstr (n : Fin 8) (t : Target) (s : State) :
    ∃ e jumps cost, Retires (resInstr n t) s e jumps cost :=
  retires_runRes n t _ s (exec_resInstr n t)
    (by fin_cases n <;> rcases t with (_ | _ | _ | _ | _ | _ | _) | _ <;> exact ⟨rfl, rfl⟩)
    (fun ht s => by subst ht; fin_cases n <;> rfl)

theorem retires_runSet (n : Fin 8) (t : Target) (i : Instr) (s : State) (he : ∀ s, exec i s = runSet n t s)
    (hl : (encode i).length = 2 ∧ writesPc i s = false) (hw : t = .atHl → ∀ s, storesOf i s = .one s.hl) :
    ∃ e jumps cost, Retires i s e jumps cost := by
  have hj := hl.2
  cases t with
  | reg r =>
    exact ⟨_, _, _, Retires.fixed (len := 2) (cost := 2) (fun bug => he _) ⟨by decide, by decide⟩ hl.1 rfl
      (Effect.plain _ Regs.set_low (.refl _ _) rfl)⟩
  | atHl =>
    exact ⟨_, _, _, Retires.fixed (len := 2) (cost := 4) (fun bug => he _) ⟨by decide, by decide⟩ hl.1 rfl
      (Effect.plain _ id (by rw [hw rfl]; exact .readStore _ _ _) rfl)⟩

theorem retires_setInstr (n : Fin 8) (t : Target) (s : State) :
    ∃ e jumps cost, Retires (setInstr n t) s e jumps cost :=
  retires_runSet n t _ s (exec_setInstr n t)
    (by fin_cases n <;> rcases t with (_ | _ | _ | _ | _ | _ | _) | _ <;> exact ⟨rfl, rfl⟩)
    (fun ht s => by subst ht; fin_cases n <;> rfl)

theorem retires_aluInstr (op : AluOp) (src : AluSrc) (s : State) :
    ∃ e jumps cost, Retires (aluInstr op src) s e jumps cost := by
  have hj : writesPc (aluInstr op src) s = false := by
    cases op <;> rcases src with (_ | _ | _ | _ | _ | _ | _) | _ | _ <;> rfl
  have low : ∀ s : State, ∀ r, (s.putAlu op r).regs.f &&& 0x0F = 0 := fun s r => State.putFlags_low _ _ _ _ _
  rcases src with r | _ | n8
  · exact ⟨_, _, _, Retires.fixed (cost := 1) (fun bug => exec_aluInstr op (.reg r) _) ⟨by decide, by decide⟩
      (by cases op <;> cases r <;> rfl) (by cases op <;> rfl)
      (Effect.plain _ (fun _ => low _ _) (by cases op <;> exact .refl _ _) (by cases op <;> rfl))⟩
  · exact ⟨_, _, _, Retires.fixed (fun bug => exec_aluInstr op .atHl _) ⟨by decide, by decide⟩
      (by cases op <;> rfl) (by cases op <;> rfl)
      (Effect.plain _ (fun _ => low _ _) (by cases op <;> exact (BusEffect.refl _ _).read _) (by cases op <;> rfl))⟩
  · exact ⟨_, _, _, Retires.fixed (cost := 2) (fun bug => exec_aluInstr op (.imm n8) _) ⟨by decide, by decide⟩
      (by cases op <;> rfl) (by cases op <;> rfl)
      (Effect.plain _ (fun _ => low _ _) (by cases op <;> exact .refl _ _) (by cases op <;> rfl))⟩

theorem retires_jumpRelIf (cc : Cond) (e8 : Byte) (s : State) :
    ∃ e jumps cost, Retires (jumpRelIf cc e8) s e jumps cost := by
  refine Retires.branch (taken := s.holds cc) (len := 2) (c := 3) (c' := 2) (eff := State.jumpBy e8)
    (fun bug => exec_jumpRelIf cc e8 _) ⟨by decide, by decide⟩ ⟨by decide, by decide⟩
    (by cases cc <;> rfl) (by cases cc <;> rfl) fun _ => Effect.plain _ id (.refl _ _) rfl

theorem retires_jumpIf (cc : Cond) (n16 : Word) (s : State) : ∃ e jumps cost, Retires (jumpIf cc n16) s e jumps cost := by
  refine Retires.branch (taken := s.holds cc) (len := 3) (c := 4) (c' := 3) (eff := State.jumpTo n16)
    (fun bug => exec_jumpIf cc n16 _) ⟨by decide, by decide⟩ ⟨by decide, by decide⟩
    (by cases cc <;> rfl) (by cases cc <;> rfl) fun _ => Effect.plain _ id (.refl _ _) rfl

theorem retires_callIf (cc : Cond) (n16 : Word) (s : State) : ∃ e jumps cost, Retires (callIf cc n16) s e jumps cost := by
  refine Retires.branch (taken := s.holds cc) (len := 3) (c := 6) (c' := 3) (eff := State.call n16)
    (fun bug => exec_callIf cc n16 _) ⟨by decide, by decide⟩ ⟨by decide, by decide⟩
    (by cases cc <;> rfl) (by cases cc <;> rfl) fun h => Effect.plain _ id ?_ rfl
  have hw : storesOf (callIf cc n16) s.consumeHaltBug = s.consumeHaltBug.pushed (s.consumeHaltBug.pc + 3) := by
    cases cc <;> exact if_pos h
  rw [hw]
  exact push_effect _ _

theorem retires_returnIf (cc : Cond) (s : State) : ∃ e jumps cost, Retires (returnIf cc) s e jumps cost := by
  refine Retires.branch (taken := s.holds cc) (len := 1) (c := 5) (c' := 2) (eff := State.ret)
    (fun bug => exec_returnIf cc _) ⟨by decide, by decide⟩ ⟨by decide, by decide⟩
    (by cases cc <;> rfl) (by cases cc <;> rfl) fun _ => Effect.plain _ id (((BusEffect.refl _ _).read _).read _) rfl

theorem retires_restart (y : Fin 8) (s : State) : ∃ e jumps cost, Retires (restart y) s e jumps cost := by
  have hw : ∀ s, storesOf (restart y) s = s.pushed (s.pc + 1) := fun s => by fin_cases y <;> rfl
  have hj : writesPc (restart y) s = true := by fin_cases y <;> rfl
  exact ⟨_, _, _, Retires.jump (fun bug => exec_restart y _) ⟨by decide, by decide⟩
    (Effect.plain _ id (by rw [hw]; exact push_effect _ _) rfl)⟩

theorem retires_loadA (i : Instr) (len cost : Nat) (a : Word) (s : State)
    (he : ∀ bug, exec i (s.withBug bug) = runLoadA len cost a (s.withBug bug)) (hl : (encode i).length = len)
    (hj : writesPc i s = false)
    (hc : 1 ≤ cost ∧ cost ≤ 6) : ∃ e jumps cost, Retires i s e jumps cost :=
  ⟨_, _, _, Retires.fixed he hc hl rfl (Effect.plain _ id ((BusEffect.refl _ _).read _) rfl)⟩

theorem retires_storeA (i : Instr) (len cost : Nat) (a : Word) (s : State)
    (he : ∀ bug, exec i (s.withBug bug) = runStoreA len cost a (s.withBug bug)) (hl : (encode i).length = len)
    (hj : writesPc i s = false)
    (hc : 1 ≤ cost ∧ cost ≤ 6) (hw : storesOf i s.consumeHaltBug = .one a) : ∃ e jumps cost, Retires i s e jumps cost :=
  ⟨_, _, _, Retires.fixed he hc hl rfl (Effect.plain _ id (by rw [hw]; exact .store _ _ _) rfl)⟩

theorem retires_loadAStep (i : Instr) (step : Word) (s : State) (he : ∀ s, exec i s = runLoadAStep step s)
    (hl : (encode i).length = 1) (hj : writesPc i s = false) : ∃ e jumps cost, Retires i s e jumps cost :=
  ⟨_, _, _, Retires.fixed (fun _ => he _) ⟨by decide, by decide⟩ hl rfl
    (Effect.plain _ id ((BusEffect.refl _ _).read _) rfl)⟩

theorem retires_storeAStep (i : Instr) (step : Word) (s : State) (he : ∀ s, exec i s = runStoreAStep step s)
    (hl : (encode i).length = 1) (hj : writesPc i s = false) (hw : ∀ s, storesOf i s = .one s.hl) :
    ∃ e jumps cost, Retires i s e jumps cost :=
  ⟨_, _, _, Retires.fixed (fun _ => he _) ⟨by decide, by decide⟩ hl rfl
    (Effect.plain _ id (by rw [hw]; exact .store _ _ _) rfl)⟩

theorem retires_rotA (i : Instr) (op : RotOp) (s : State) (he : ∀ s, exec i s = runRotA op s)
    (hl : (encode i).length = 1) (hj : writesPc i s = false) : ∃ e jumps cost, Retires i s e jumps cost :=
  ⟨_, _, _, Retires.fixed (fun _ => he _) ⟨by decide, by decide⟩ hl rfl
    (Effect.plain _ (fun _ => State.putFlags_low _ _ _ _ _) (.refl _ _) rfl)⟩

/-- The prefix byte's own row retires as the extended instruction its second byte selects (R204, log 10). -/
theorem retires_prefixCb (b1 : Byte) (s : State) : ∃ e jumps cost, Retires (.prefixCb b1) s e jumps cost := by
  have hz : targetOf (fieldZ b1) = .atHl → fieldZ b1 = 6 := by revert b1; decide
  have hw : fieldX b1 ≠ 1 → targetOf (fieldZ b1) = .atHl → ∀ s, storesOf (.prefixCb b1) s = .one s.hl :=
    fun hx ht s => if_pos ⟨hx, hz ht⟩
  have he : ∀ s, exec (.prefixCb b1) s = runExtended b1 s := fun _ => rfl
  unfold runExtended at he
  dsimp only at he
  match hx : fieldX b1 with
  | 0 => rw [hx] at he; exact retires_runRot _ _ _ s he ⟨rfl, rfl⟩ (hw (by omega))
  | 1 => rw [hx] at he; exact retires_runBit _ _ _ s he ⟨rfl, rfl⟩
  | 2 => rw [hx] at he; exact retires_runRes _ _ _ s he ⟨rfl, rfl⟩ (hw (by omega))
  | _ + 3 => rw [hx] at he; exact retires_runSet _ _ _ s he ⟨rfl, rfl⟩ (hw (by omega))

/-- Every instruction retires, but for ILLEGAL and for STOP in the mode `refuse`. -/
theorem retires (i : Instr) (s : State) :
    (∃ b, i = .illegal b) ∨ (∃ n, i = .stop n ∧ s.stopMode = .refuse) ∨ ∃ e jumps cost, Retires i s e jumps cost := by
  cases inFamily i with
  | loadRegReg dst src => exact .inr (.inr (retires_loadRegReg dst src s))
  | loadRegImm dst n8 => exact .inr (.inr (retires_loadRegImm dst n8 s))
  | loadRegMem dst => exact .inr (.inr (retires_loadRegMem dst s))
  | storeMemReg src => exact .inr (.inr (retires_storeMemReg src s))
  | loadPairImm p n16 => exact .inr (.inr (retires_loadPairImm p n16 s))
  | addHlPair p => exact .inr (.inr (retires_addHlPair p s))
  | incPair p => exact .inr (.inr (retires_incPair p s))
  | decPair p => exact .inr (.inr (retires_decPair p s))
  | pushPair p => exact .inr (.inr (retires_pushPair p s))
  | popPair p => exact .inr (.inr (retires_popPair p s))
  | incTarget t => exact .inr (.inr (retires_incTarget t s))
  | decTarget t => exact .inr (.inr (retires_decTarget t s))
  | aluInstr op src => exact .inr (.inr (retires_aluInstr op src s))
  | rotInstr op t => exact .inr (.inr (retires_rotInstr op t s))
  | bitInstr n t => exact .inr (.inr (retires_bitInstr n t s))
  | resInstr n t => exact .inr (.inr (retires_resInstr n t s))
  | setInstr n t => exact .inr (.inr (retires_setInstr n t s))
  | jumpRelIf cc e8 => exact .inr (.inr (retires_jumpRelIf cc e8 s))
  | jumpIf cc n16 => exact .inr (.inr (retires_jumpIf cc n16 s))
  | callIf cc n16 => exact .inr (.inr (retires_callIf cc n16 s))
  | returnIf cc => exact .inr (.inr (retires_returnIf cc s))
  | restart y => exact .inr (.inr (retires_restart y s))
  | prefixCb b1 => exact .inr (.inr (retires_prefixCb b1 s))
  | ldAIndBc => exact .inr (.inr (retires_loadA _ 1 2 s.regs.bc s (fun _ => rfl) rfl rfl (by decide)))
  | ldAIndDe => exact .inr (.inr (retires_loadA _ 1 2 s.regs.de s (fun _ => rfl) rfl rfl (by decide)))
  | ldhAMem n8 => exact .inr (.inr (retires_loadA _ 2 3 (highPage n8) s (fun _ => rfl) rfl rfl (by decide)))
  | ldAHighC => exact .inr (.inr (retires_loadA _ 1 2 (highPage s.regs.c) s (fun _ => rfl) rfl rfl (by decide)))
  | ldAMem n16 => exact .inr (.inr (retires_loadA _ 3 4 n16 s (fun _ => rfl) rfl rfl (by decide)))
  | ldIndBcA => exact .inr (.inr (retires_storeA _ 1 2 s.regs.bc s (fun _ => rfl) rfl rfl (by decide) rfl))
  | ldIndDeA => exact .inr (.inr (retires_storeA _ 1 2 s.regs.de s (fun _ => rfl) rfl rfl (by decide) rfl))
  | ldhMemA n8 => exact .inr (.inr (retires_storeA _ 2 3 (highPage n8) s (fun _ => rfl) rfl rfl (by decide) rfl))
  | ldHighCA => exact .inr (.inr (retires_storeA _ 1 2 (highPage s.regs.c) s (fun _ => rfl) rfl rfl (by decide) rfl))
  | ldMemA n16 => exact .inr (.inr (retires_storeA _ 3 4 n16 s (fun _ => rfl) rfl rfl (by decide) rfl))
  | ldAHli => exact .inr (.inr (retires_loadAStep _ 1 s (fun _ => rfl) rfl rfl))
  | ldAHld => exact .inr (.inr (retires_loadAStep _ (-1) s (fun _ => rfl) rfl rfl))
  | ldHliA => exact .inr (.inr (retires_storeAStep _ 1 s (fun _ => rfl) rfl rfl (fun _ => rfl)))
  | ldHldA => exact .inr (.inr (retires_storeAStep _ (-1) s (fun _ => rfl) rfl rfl (fun _ => rfl)))
  | rlca => exact .inr (.inr (retires_rotA _ .rlc s (fun _ => rfl) rfl rfl))
  | rrca => exact .inr (.inr (retires_rotA _ .rrc s (fun _ => rfl) rfl rfl))
  | rla => exact .inr (.inr (retires_rotA _ .rl s (fun _ => rfl) rfl rfl))
  | rra => exact .inr (.inr (retires_rotA _ .rr s (fun _ => rfl) rfl rfl))
  | nop =>
    exact .inr (.inr ⟨_, _, _, Retires.fixed (len := 1) (cost := 1)
      (eff := fun s => s)
      (fun _ => rfl) (by decide) rfl rfl (Effect.plain _ (id) (.refl _ _) rfl)⟩)
  | ldMemSp n16 =>
    exact .inr (.inr ⟨_, _, _, Retires.fixed (len := 3) (cost := 5)
      (eff := fun s => (s.store n16 (lowByte s.sp)).store (n16 + 1) (highByte s.sp))
      (fun _ => rfl) (by decide) rfl rfl (Effect.plain _ (id) (.store2 _ _ _ _ _) rfl)⟩)
  | stop n8 =>
    cases hm : s.stopMode with
    | refuse => exact .inr (.inl ⟨n8, rfl, rfl⟩)
    | nop2 =>
      exact .inr (.inr ⟨_, _, _, Retires.fixed (len := 2) (cost := 1) (eff := fun s => s)
        (fun bug => by show execStop n8 _ = _; unfold execStop State.withBug; rw [hm]) (by decide) rfl rfl
        (Effect.plain _ id (.refl _ _) rfl)⟩)
  | jrE8 e8 =>
    exact .inr (.inr ⟨_, _, _, Retires.jump (cost := 3) (eff := State.jumpBy e8) (fun _ => rfl) (by decide)
      (Effect.plain _ id (.refl _ _) rfl)⟩)
  | daa =>
    exact .inr (.inr ⟨_, _, _, Retires.fixed (len := 1) (cost := 1)
      (eff := State.decimalAdjust)
      (fun _ => rfl) (by decide) rfl rfl (Effect.plain _ (fun _ => State.putFlags_low _ _ _ _ _) (.refl _ _) rfl)⟩)
  | cpl =>
    exact .inr (.inr ⟨_, _, _, Retires.fixed (len := 1) (cost := 1)
      (eff := fun s => (s.setReg .a (s.regs.a ^^^ 0xFF)).putFlags none (some true) (some true) none)
      (fun _ => rfl) (by decide) rfl rfl (Effect.plain _ (fun _ => State.putFlags_low _ _ _ _ _) (.refl _ _) rfl)⟩)
  | ldIndHlN8 n8 =>
    exact .inr (.inr ⟨_, _, _, Retires.fixed (len := 2) (cost := 3)
      (eff := fun s => s.store s.hl n8)
      (fun _ => rfl) (by decide) rfl rfl (Effect.plain _ (id) (.store _ _ _) rfl)⟩)
  | scf =>
    exact .inr (.inr ⟨_, _, _, Retires.fixed (len := 1) (cost := 1)
      (eff := fun s => s.putFlags none (some false) (some false) (some true))
      (fun _ => rfl) (by decide) rfl rfl (Effect.plain _ (fun _ => State.putFlags_low _ _ _ _ _) (.refl _ _) rfl)⟩)
  | ccf =>
    exact .inr (.inr ⟨_, _, _, Retires.fixed (len := 1) (cost := 1)
      (eff := fun s => s.putFlags none (some false) (some false) (some !s.regs.flagC))
      (fun _ => rfl) (by decide) rfl rfl (Effect.plain _ (fun _ => State.putFlags_low _ _ _ _ _) (.refl _ _) rfl)⟩)
  | halt =>
    exact .inr (.inr ⟨_, _, _, Retires.fixed (len := 1) (cost := 1) (eff := State.enterHalt) (fun bug => rfl)
      (by decide) rfl rfl
      ⟨.inl rfl, .inr rfl, fun h => ⟨rfl, by simpa [State.enterHalt, State.consumeHaltBug] using h⟩, rfl, rfl, rfl, id,
        .refl _ _⟩⟩)
  | jpN16 n16 =>
    exact .inr (.inr ⟨_, _, _, Retires.jump (cost := 4) (eff := State.jumpTo n16) (fun _ => rfl) (by decide)
      (Effect.plain _ id (.refl _ _) rfl)⟩)
  | ret =>
    exact .inr (.inr ⟨_, _, _, Retires.jump (cost := 4) (eff := State.ret) (fun _ => rfl) (by decide)
      (Effect.plain _ id (((BusEffect.refl _ _).read _).read _) rfl)⟩)
  | callN16 n16 =>
    exact .inr (.inr ⟨_, _, _, Retires.jump (cost := 6) (eff := State.call n16) (fun _ => rfl) (by decide)
      (Effect.plain _ id (push_effect _ _) rfl)⟩)
  | jpHl =>
    exact .inr (.inr ⟨_, _, _, Retires.jump (cost := 1) (eff := State.jumpTo s.hl) (fun _ => rfl) (by decide)
      (Effect.plain _ id (.refl _ _) rfl)⟩)
  | illegal b0 => exact .inl ⟨b0, rfl⟩
  | reti =>
    exact .inr (.inr ⟨_, _, _, Retires.jump (cost := 4) (eff := State.returnFromInterrupt) (fun bug => rfl)
      (by decide)
      ⟨.inr (.inr (.inr rfl)), .inl rfl, fun h => absurd h (by simp [State.returnFromInterrupt, State.afterPop16,
        State.afterPop8, State.afterRead, State.consumeHaltBug]), rfl, rfl, rfl, id,
        ((BusEffect.refl _ _).read _).read _⟩⟩)
  | addSpE8 e8 =>
    exact .inr (.inr ⟨_, _, _, Retires.fixed (len := 2) (cost := 4)
      (eff := fun s => { s with sp := s.sp + displacement e8 }.spFlags s.sp e8)
      (fun _ => rfl) (by decide) rfl rfl (Effect.plain _ (fun _ => State.putFlags_low _ _ _ _ _) (.refl _ _) rfl)⟩)
  | ldHlSpE8 e8 =>
    exact .inr (.inr ⟨_, _, _, Retires.fixed (len := 2) (cost := 3)
      (eff := fun s => (s.setHl (s.sp + displacement e8)).spFlags s.sp e8)
      (fun _ => rfl) (by decide) rfl rfl (Effect.plain _ (fun _ => State.putFlags_low _ _ _ _ _) (.refl _ _) rfl)⟩)
  | ldSpHl =>
    exact .inr (.inr ⟨_, _, _, Retires.fixed (len := 1) (cost := 2)
      (eff := fun s => { s with sp := s.hl })
      (fun _ => rfl) (by decide) rfl rfl (Effect.plain _ (id) (.refl _ _) rfl)⟩)
  | di =>
    exact .inr (.inr ⟨_, _, _, Retires.fixed (len := 1) (cost := 1) (eff := fun s => { s with ime := false }) (fun bug => rfl)
      (by decide) rfl rfl
      ⟨.inr (.inl rfl), .inl rfl, fun h => absurd h (by simp [State.consumeHaltBug]), rfl, rfl, rfl, id, .refl _ _⟩⟩)
  | ei =>
    exact .inr (.inr ⟨_, _, _, Retires.fixed (len := 1) (cost := 1) (eff := fun s => { s with ime := true }) (fun bug => rfl)
      (by decide) rfl rfl
      ⟨.inr (.inr (.inl rfl)), .inl rfl, fun h => absurd h (by simp [State.consumeHaltBug]), rfl, rfl, rfl, id, .refl _ _⟩⟩)

/-- What a next state of `exec` is. -/
theorem exec_next {i : Instr} {s t : State} (h : exec i s = .next t) :
    ∃ e jumps cost, Retires i s e jumps cost ∧ t = retiredFrom jumps s.pc (encode i).length cost e s.haltBug := by
  rcases retires i s with ⟨b, rfl⟩ | ⟨n, rfl, hm⟩ | ⟨e, jumps, cost, hr⟩
  · exact absurd h (by simp [exec, execIllegal])
  · exact absurd h (by simp [exec, execStop, hm])
  · exact ⟨e, jumps, cost, hr, Host.Outcome.next.inj (h.symm.trans (hr.exec s.haltBug))⟩

end Sys2Proof.Machine
end

