-- ==== Sys2Proof/Tests/Slice0.lean ====
section
/-! SUPPORT. The model's own tests: ill-formed terms refused, words written out from the spec's encodings, single steps with
the results of the spec's vectors (95_test_vectors.md), and a witness for the hypotheses of every statement. -/

namespace Sys2Proof.Machine

/-! ### Helpers -/

/-- Reset with a blank cartridge loaded and `pc` at 0x0200. -/
def testState : State := { State.reset with pc := 0x0200, bus := { Bus.reset with cart := Cartridge.blank } }

/-- `testState` with the registers given. -/
def withRegs (f : Regs → Regs) : State := { testState with regs := f testState.regs }

/-- `testState` with bytes stored on the bus. -/
def withBytes (s : State) (a : Word) (bytes : List Byte) : State := { s with bus := s.bus.placeAll a bytes }

/-- What `f` sees of the state after an instruction, `none` where it stops. -/
def after {α : Type} (i : Instr) (s : State) (f : State → α) : Option α :=
  match exec i s with
  | .next t => some (f t)
  | _ => none

/-- What `f` sees of the state after one machine tick with the bytes of a word at `pc`. -/
def afterStep {α : Type} (nbits w : Nat) (s : State) (f : State → α) : Option α :=
  match step (s.withFetchWord nbits w) with
  | .next t => some (f t)
  | _ => none

/-- A and F. -/
def seeAF (s : State) : Byte × Byte := (s.regs.a, s.regs.f)

/-- An 8-bit operation on A and F with the values given. -/
def onAF (i : Instr) (a f : Byte) : Option (Byte × Byte) := after i (withRegs fun x => { x with a := a, f := f }) seeAF

/-! ### Well-formedness (WellFormed.lean): each check refuses an ill-formed term -/

theorem test_illegal_byte_refused : Instr.wellFormed (.illegal 0x00) = false := by decide
theorem test_prefix_row_refused : Instr.wellFormed (.prefixCb 0x37) = false := by decide
theorem test_illegal_byte_accepted : Instr.wellFormed (.illegal 0xFD) = true := by decide

/-! ### Decoding: words written out from the opcode maps (R107, R108), one family after another -/

theorem test_decode_loads8 :
    decode [0b01111110] = .ok (.ldAIndHl, []) ∧ decode [0b01110101] = .ok (.ldIndHlL, []) ∧
      decode [0b00011110, 0x99] = .ok (.ldEN8 0x99, []) ∧ decode [0xFA, 0x47, 0xFF] = .ok (.ldAMem 0xFF47, []) ∧
      decode [0xE2] = .ok (.ldHighCA, []) ∧ decode [0x3A] = .ok (.ldAHld, []) := by decide
theorem test_decode_loads16 :
    decode [0x31, 0xFE, 0xFF] = .ok (.ldSpN16 0xFFFE, []) ∧ decode [0b11110101] = .ok (.pushAf, []) ∧
      decode [0b11010001] = .ok (.popDe, []) ∧ decode [0xF8, 0xFF] = .ok (.ldHlSpE8 0xFF, []) := by decide
theorem test_decode_alu8 :
    decode [0b10011110] = .ok (.sbcAIndHl, []) ∧ decode [0b10111111] = .ok (.cpA, []) ∧
      decode [0b11101110, 0x0F] = .ok (.xorN8 0x0F, []) ∧ decode [0b00110100] = .ok (.incIndHl, []) ∧
      decode [0x27] = .ok (.daa, []) := by decide
theorem test_decode_alu16 :
    decode [0b00011001] = .ok (.addHlDe, []) ∧ decode [0b00111011] = .ok (.decSp, []) ∧
      decode [0xE8, 0x80] = .ok (.addSpE8 0x80, []) := by decide
theorem test_decode_prefixed :
    decode [0xCB, 0b00011110] = .ok (.rrIndHl, []) ∧ decode [0xCB, 0b01100010] = .ok (.bit4D, []) ∧
      decode [0xCB, 0b10000110, 0x55] = .ok (.res0IndHl, [0x55]) ∧ decode [0xCB, 0b11111111] = .ok (.set7A, []) := by
  decide
theorem test_decode_control :
    decode [0b00111000, 0x80] = .ok (.jrCE8 0x80, []) ∧ decode [0b11001010, 0x34, 0x12] = .ok (.jpZN16 0x1234, []) ∧
      decode [0xD9] = .ok (.reti, []) ∧ decode [0b11010000] = .ok (.retNc, []) := by decide
theorem test_decode_system :
    decode [0x10, 0x00] = .ok (.stop 0x00, []) ∧ decode [0xF3] = .ok (.di, []) ∧ decode [0xED] = .ok (.illegal 0xED, []) ∧
      decode [0xC3, 0x00] = .error (.truncated 0xC3) := by decide
theorem test_table_word : decodeTableWord 16 0xCB37 = some .swapA ∧ decodeTableWord 8 0x48 = some .ldCB := by decide

/-! ### 8-bit loads (95_test_vectors.md 2.1) -/

/-- L1: HL wraps. -/
theorem test_ldAHli_wraps :
    after .ldAHli (withBytes (withRegs fun x => { x with h := 0xFF, l := 0xFF }) 0xFFFF [0x1F])
      (fun t => (t.regs.a, t.regs.hl)) = some (0x1F, 0x0000) := by decide
/-- L2. -/
theorem test_store_readOnly_logged :
    after (.ldIndHlN8 0x05) (withRegs fun x => { x with h := 0xFF, l := 0x44 })
      (fun t => (t.byteAt 0xFF44, t.bus.log)) = some (0x00, [.writeReadOnly 0xFF44 0x05]) := by decide
/-- L3. -/
theorem test_load_unusable :
    after .ldAIndDe (withRegs fun x => { x with a := 0x77, d := 0xFE, e := 0xA5 }) (fun t => t.regs.a) = some 0x00 := by
  decide
/-- L4. -/
theorem test_load_writeOnly :
    after (.ldAMem 0xFF47) { testState with bus := { testState.bus with mem := [(0xFF47, 0xE4)] } }
      (fun t => (t.regs.a, t.bus.log, t.bus.readAny 0xFF47)) = some (0xFF, [.readWriteOnly 0xFF47], 0xE4) := by decide
/-- L6. -/
theorem test_ldh_ie : after (.ldhMemA 0xFF) (withRegs fun x => { x with a := 0x04 }) (fun t => t.bus.ie) = some 0x04 := by
  decide

/-! ### 16-bit loads and the stack (2.2) -/

/-- W9: the push wraps below 0x0000 and reaches IE. -/
theorem test_push_wraps :
    after .pushBc (withRegs fun x => { x with b := 0x12, c := 0x34 })
      (fun t => (t.bus.ie, t.byteAt 0xFFFE, t.sp)) = some (0x12, 0x34, 0xFFFE) := by decide
/-- W10: the pop wraps above 0xFFFF. -/
theorem test_pop_wraps :
    after .popBc { withBytes testState 0xFFFF [0x1F] with sp := 0xFFFF }
      (fun t => (t.regs.c, t.regs.b, t.sp)) = some (0x1F, 0x00, 0x0001) := by decide
/-- W12: the high byte goes to the MBC1 RAM enable register. -/
theorem test_ldMemSp_wraps :
    after (.ldMemSp 0xFFFF)
      { testState with
        sp := 0xABCD, bus := { testState.bus with cart := { testState.bus.cart with kind := .mbc1, ramEnabled := true } } }
      (fun t => (t.bus.ie, t.bus.cart.ramEnabled, t.cycles)) = some (0xCD, false, 5) := by decide
/-- W13, W14. -/
theorem test_ldHlSp :
    after (.ldHlSpE8 0xFF) testState (fun t => (t.regs.hl, t.regs.f)) = some (0xFFFF, 0x00) ∧
      after (.ldHlSpE8 0x01) { testState with sp := 0x00FF } (fun t => (t.regs.hl, t.regs.f)) = some (0x0100, 0x30) := by
  decide

/-! ### 8-bit arithmetic and logic (2.3) -/

/-- A1, A2. -/
theorem test_add : onAF (.addAN8 0x01) 0x0F 0x00 = some (0x10, 0x20) ∧ onAF (.addAN8 0x10) 0xF0 0x00 = some (0x00, 0x90) := by
  decide
/-- A4. -/
theorem test_adc : onAF (.adcAN8 0x01) 0x0E 0x10 = some (0x10, 0x20) := by decide
/-- A5, A6. -/
theorem test_sub : onAF (.subN8 0x01) 0x10 0x00 = some (0x0F, 0x60) ∧ onAF (.subN8 0x01) 0x00 0x00 = some (0xFF, 0x70) := by
  decide
/-- A7, A8. -/
theorem test_sbc : onAF (.sbcAN8 0x0F) 0x10 0x10 = some (0x00, 0xE0) ∧ onAF (.sbcAN8 0xFF) 0x00 0x10 = some (0x00, 0xF0) := by
  decide
/-- A10, A13. -/
theorem test_daa : onAF .daa 0x00 0x70 = some (0x9A, 0x50) ∧ onAF .daa 0xA0 0x00 = some (0x00, 0x90) := by decide
/-- A15, A18. -/
theorem test_ccf_cpl : onAF .ccf 0x00 0x90 = some (0x00, 0x80) ∧ onAF .cpl 0xFF 0x80 = some (0x00, 0xE0) := by decide
/-- A16, A17. -/
theorem test_dec_inc : onAF .decA 0x00 0x10 = some (0xFF, 0x70) ∧ onAF .incA 0xFF 0x00 = some (0x00, 0xA0) := by decide
/-- A19. -/
theorem test_cp : onAF .cpA 0x42 0x00 = some (0x42, 0xC0) := by decide
/-- A20. -/
theorem test_incIndHl :
    after .incIndHl (withBytes (withRegs fun x => { x with h := 0xC0 }) 0xC000 [0x50])
      (fun t => (t.byteAt 0xC000, t.cycles)) = some (0x51, 3) := by decide

/-! ### 16-bit arithmetic (2.4) -/

/-- W1, W2. -/
theorem test_addHl :
    after .addHlBc (withRegs fun x => { x with h := 0x0F, l := 0xFF, c := 0x01, f := 0x80 })
        (fun t => (t.regs.hl, t.regs.f)) = some (0x1000, 0xA0) ∧
      after .addHlHl (withRegs fun x => { x with h := 0x80 }) (fun t => (t.regs.hl, t.regs.f)) = some (0x0000, 0x10) := by
  decide
/-- W5, W6. -/
theorem test_addSp :
    after (.addSpE8 0xFF) { testState with sp := 0x0001 } (fun t => (t.sp, t.regs.f)) = some (0x0000, 0x30) ∧
      after (.addSpE8 0x80) { withRegs (fun x => { x with f := 0xF0 }) with sp := 0xC000 }
        (fun t => (t.sp, t.regs.f)) = some (0xBF80, 0x00) := by decide
/-- W7, W8. -/
theorem test_step_pair :
    after .incBc (withRegs fun x => { x with b := 0xFF, c := 0xFF, f := 0x50 })
        (fun t => (t.regs.bc, t.regs.f)) = some (0x0000, 0x50) ∧
      after .decSp testState (fun t => t.sp) = some 0xFFFF := by decide

/-! ### Rotates, shifts and bits (2.5) -/

/-- B1. -/
theorem test_bit :
    after .bit0IndHl (withBytes (withRegs fun x => { x with h := 0xC0, f := 0x10 }) 0xC000 [0x01])
      (fun t => (t.regs.f, t.byteAt 0xC000, t.cycles)) = some (0x30, 0x01, 3) := by decide
/-- B2: the write of the read-modify-write resets the divider. -/
theorem test_res_div :
    after .res0IndHl
      { withRegs (fun x => { x with h := 0xFF, l := 0x04 }) with
        bus := { testState.bus with timer := { testState.bus.timer with div := 0xAB00 } } }
      (fun t => (t.bus.timer.div, t.cycles)) = some (0x0000, 4) := by decide
/-- B3, B4. -/
theorem test_sla_rr :
    after .slaIndHl (withBytes (withRegs fun x => { x with h := 0xC0 }) 0xC000 [0x80])
        (fun t => (t.byteAt 0xC000, t.regs.f)) = some (0x00, 0x90) ∧
      after .rrIndHl (withBytes (withRegs fun x => { x with h := 0xC0, f := 0x10 }) 0xC000 [0x01])
        (fun t => (t.byteAt 0xC000, t.regs.f)) = some (0x80, 0x10) := by decide
/-- B5, B6. -/
theorem test_sra_swap :
    after .sraB (withRegs fun x => { x with b := 0x01 }) (fun t => (t.regs.b, t.regs.f)) = some (0x00, 0x90) ∧
      after .swapC (withRegs fun x => { x with f := 0x10 }) (fun t => (t.regs.c, t.regs.f)) = some (0x00, 0x80) := by decide
/-- B7. -/
theorem test_rla : onAF .rla 0x00 0x80 = some (0x00, 0x00) := by decide

/-! ### Control transfer (2.6) -/

/-- K1. -/
theorem test_callC :
    after (.callCN16 0x0300) { withRegs (fun x => { x with f := 0x10 }) with sp := 0xFFFE }
      (fun t => (t.byteAt 0xFFFD, t.byteAt 0xFFFC, t.sp, t.pc, t.cycles)) = some (0x02, 0x03, 0xFFFC, 0x0300, 6) := by
  decide
/-- K2. -/
theorem test_retNz_notTaken :
    after .retNz { withRegs (fun x => { x with f := 0x80 }) with sp := 0xFFFC }
      (fun t => (t.pc, t.sp, t.cycles)) = some (0x0201, 0xFFFC, 2) := by decide
/-- K3, K6. -/
theorem test_jr :
    after (.jrCE8 0x80) (withRegs fun x => { x with f := 0x10 }) (fun t => (t.pc, t.cycles)) = some (0x0182, 3) ∧
      after (.jrE8 0x20) { testState with pc := 0xFFF0 } (fun t => t.pc) = some 0x0012 := by decide
/-- K4. -/
theorem test_rst :
    after .rst38 { testState with sp := 0xFFFE } (fun t => (t.pc, t.byteAt 0xFFFD, t.byteAt 0xFFFC)) =
      some (0x0038, 0x02, 0x01) := by decide

/-! ### System instructions (2.7) -/

/-- H1, step 3: with the halt bug pending the two-byte instruction keeps the pc. -/
theorem test_haltBug :
    after (.addAN8 0x01) { testState with pc := 0x0201, haltBug := true }
      (fun t => (t.regs.a, t.pc, t.haltBug, t.cycles)) = some (0x01, 0x0201, false, 2) := by decide
/-- H7, H8. -/
theorem test_stop_illegal :
    step (testState.withFetchWord 16 0x0010) = .refused (.stopUnmodelled 0x0200) ∧
      step (testState.withFetchWord 8 0xD3) = .fault (.illegalOpcode 0x0200 0xD3) := ⟨rfl, rfl⟩
/-- R242 in the mode `nop2`: the pc passes both bytes. -/
theorem test_stop_nop2 :
    after (.stop 0x00) { testState with stopMode := .nop2 } (fun t => (t.pc, t.cycles)) = some (0x0202, 1) := by decide
/-- H5: HALT with IME set and an interrupt pending is serviced in its own step. -/
theorem test_halt_serviced :
    afterStep 8 0x76
        { testState with
          ime := true, sp := 0xFFFE, bus := { testState.bus with mem := [(0xFF0F, 0x04), (0xFFFF, 0x04)] } }
        (fun t => (t.pc, t.byteAt 0xFFFC, t.halted, t.cycles)) =
      some (0x0050, 0x01, false, 6) := by decide

/-! ### Interrupts (S7, 2.8) -/

/-- A state with IE and IF given, IME set and the stack at 0xFFFE. -/
def withIrqs (ie iflags : Byte) (ime : Bool) : State :=
  { testState with
    ime := ime, sp := 0xFFFE, bus := { testState.bus with mem := Memory.write (Memory.write [] 0xFFFF ie) 0xFF0F iflags } }

/-- S7: LCDC before the timer. -/
theorem test_priority :
    afterStep 8 0x00 (withIrqs 0x1F 0x06 true)
        (fun t => (t.bus.iflags, t.byteAt 0xFFFD, t.byteAt 0xFFFC, t.sp, t.pc, t.cycles)) =
      some (0x04, 0x02, 0x01, 0xFFFC, 0x0048, 6) := by decide
/-- S8, step 1: the delay of EI. -/
theorem test_ei_delay :
    afterStep 8 0xFB (withIrqs 0x04 0x04 false) (fun t => (t.ime, t.pc, t.cycles)) = some (true, 0x0201, 1) := by decide
/-- I3: the push of the service reaches IE. -/
theorem test_service_push_ie :
    afterStep 8 0x00 { withIrqs 0x04 0x04 true with sp := 0x0000 }
        (fun t => (t.pc, t.bus.ie, t.byteAt 0xFFFE, t.sp, t.cycles)) =
      some (0x0050, 0x02, 0x01, 0xFFFE, 6) := by decide
/-- I6: bits 7 to 5 select nothing. -/
theorem test_high_bits_ignored :
    afterStep 8 0x00 (withIrqs 0xE0 0xE0 true) (fun t => (t.pc, t.cycles)) = some (0x0201, 1) := by decide

/-! ### The timer (S2, S3, 2.9) -/

/-- S2, second row: one tick of `LDH (0x04),A`. -/
theorem test_div_write_tick :
    afterStep 16 0x04E0
        { withRegs (fun x => { x with a := 0x5A }) with
          bus := { testState.bus with timer := { Timer.reset with div := 0x1234, acc := 10, tac := 5 } } }
        (fun t => (t.bus.timer.div, t.bus.timer.acc, t.bus.timer.tima)) =
      some (0x000C, 12, 0x00) := by decide
/-- S3, the first and the last call. -/
theorem test_reload_latency :
    (({ Timer.reset with tac := 5, tima := 0xFF, tma := 0xAB, acc := 16 } : Timer).step 1 =
        ({ Timer.reset with div := 1, tac := 5, tma := 0xAB, acc := 1, reloadPending := true, reloadCountdown := 4 }, false)) ∧
      ({ Timer.reset with tac := 5, tma := 0xAB, acc := 4, reloadPending := true, reloadCountdown := 1 } : Timer).step 1 =
        ({ Timer.reset with div := 1, tac := 5, tima := 0xAB, tma := 0xAB, acc := 5 }, true) := by decide
/-- T5: two increments, the second overflows. -/
theorem test_timer_two :
    ({ Timer.reset with tac := 5, tima := 0xFE } : Timer).step 40 =
      ({ Timer.reset with div := 40, tac := 5, acc := 8, reloadPending := true, reloadCountdown := 4 }, false) := by decide
/-- T6, the second call: the reload overwrites the count of a running timer. -/
theorem test_reload_running :
    ({ Timer.reset with tac := 5, tima := 0x01, tma := 0xFF, acc := 4, reloadPending := true, reloadCountdown := 4 } : Timer).step 4 =
      ({ Timer.reset with div := 4, tac := 5, tima := 0xFF, tma := 0xFF, acc := 8 }, true) := by decide
/-- T2. -/
theorem test_tac :
    (testState.bus.write 0xFF07 0xFF).read 0xFF07 = 0xFF ∧ (testState.bus.write 0xFF07 0x00).read 0xFF07 = 0xF8 := by decide

/-! ### Channel 1 (S5, 2.10) -/

/-- S5, step 3: the clock, the commit and the second calculation. -/
theorem test_sweep :
    (fun c : Channel1 => (c.freq, c.shadow, c.calcLatch, c.enabled, c.sweepAcc, c.sweepTimer))
        (Channel1.sweepCycle
          { Channel1.reset with
            enabled := true, freq := 0x400, shadow := 0x400, sweepTimer := 1, period := 1, negate := true, shift := 1,
            sweepEnabled := true }
          32772) =
      (0x200, 0x200, true, true, 4, 1) := by decide
/-- S5, step 4: the negate quirk. -/
theorem test_negate_quirk :
    ({ Channel1.reset with enabled := true, negate := true, calcLatch := true } : Channel1).writeReg 0xFF10 0x11 =
      { Channel1.reset with nr10 := 0x11, period := 1, shift := 1, calcLatch := true } := by decide
/-- U3: the overshoot carries. -/
theorem test_duty :
    (fun c : Channel1 => (c.timer, c.dutyPos))
      (Channel1.dutyCycle { Channel1.reset with freq := 0x7FE, timer := 8 } 17) = (7, 2) := by decide
/-- U9: the read masks. -/
theorem test_masks :
    ((testState.bus.write 0xFF10 0x00).read 0xFF10, (testState.bus.write 0xFF11 0x00).read 0xFF11,
        (testState.bus.write 0xFF12 0xF3).read 0xFF12, (testState.bus.write 0xFF14 0x07).read 0xFF14) =
      (0x80, 0x3F, 0xF3, 0xBF) := by decide

/-! ### The bus and the bank controllers (2.11) -/

/-- A bus with a blank cartridge of the kind and counts given. -/
def busWith (kind : ControllerKind) (romBanks ramBanks : Nat) : Bus :=
  { Bus.reset with
    cart := { Cartridge.blank with kind := kind, romLength := romBanks * 0x4000, romBankCount := romBanks, ramBankCount := ramBanks } }

/-- M1, M2. -/
theorem test_mbc1_high_bits :
    ((((busWith .mbc1 64 0).write 0x4000 0x01).write 0x2000 0x02).cart.romBank = 0x22 ∧
        ((((busWith .mbc1 64 0).write 0x4000 0x01).write 0x2000 0x02).write 0x6000 0x01).cart.romBank = 2) ∧
      (((busWith .mbc1 128 0).write 0x4000 0x03).write 0x2000 0x00).cart.romBank = 0x61 := by decide
/-- M3. -/
theorem test_mbc1_reduce :
    ((busWith .mbc1 2 0).write 0x2000 0x03).cart.romBank = 1 ∧ ((busWith .mbc1 2 0).write 0x2000 0x02).cart.romBank = 1 := by
  decide
/-- M6, M7. -/
theorem test_mbc3 :
    ((busWith .mbc3 128 0).write 0x2000 0x85).cart.romBank = 5 ∧ ((busWith .mbc3 128 0).write 0x2000 0x80).cart.romBank = 1 ∧
      ((((busWith .mbc3 128 4).write 0x4000 0x07).write 0x0000 0x0A).write 0xA000 0x42).cart.ram = [(0x6000, 0x42)] := by
  decide
/-- M14. -/
theorem test_echo :
    (testState.bus.write 0xE123 0x77).read 0xC123 = 0x77 ∧ (testState.bus.write 0xDDFF 0x55).read 0xFDFF = 0x55 := by decide
/-- R53, R58: an unchecked write of 0xFF44 is stored and not logged. -/
theorem test_writeAny :
    (fun b : Bus => (b.read 0xFF44, b.log)) (testState.bus.writeAny 0xFF44 0x90) = (0x90, []) := by decide
/-- R64, R250: a bus call outside the address space ends the run, and no tick takes a step after it. -/
theorem test_busCall_outside :
    (EnvAction.writeAny 0x10000 0x55).apply testState =
        { testState with stop := some (.fault (.addressOutOfRange 0x10000)) } ∧
      step ((EnvAction.read 0x10000).apply testState) = .fault (.addressOutOfRange 0x10000) := ⟨rfl, rfl⟩
/-- M18: the overlay. -/
theorem test_overlay :
    (fun b : Bus => (b.read 0x0000, b.read 0x0100, (b.write 0x01FE 0x00).boot.active, (b.write 0x01FE 0x00).read 0x0000))
        { Bus.reset with
          cart := { Cartridge.blank with rom := [(0, 0x22), (0x100, 0x44)] }
          boot := { image := some [(0, 0x11)], offAddr := 0x01FE, active := true } } =
      (0x11, 0x44, false, 0x22) := by decide

/-! ### Witnesses: concrete states and operands that meet each statement's hypotheses, clause by clause -/

theorem testState_inv : testState.Inv := by
  refine ⟨by decide, .nil _, ⟨by decide⟩, ?_, ?_, fun m h => ?_, fun h => ?_⟩
  · constructor <;> decide
  · exact ⟨.nil _, .nil _, fun _ => ⟨by decide, by decide⟩, fun _ => ⟨by decide, by decide⟩, by decide, by decide,
      fun _ => ⟨rfl, rfl⟩⟩
  · change none = some m at h; cases h
  · change false = true at h; cases h

/-- The ends of the three ranges, and an overlay image. -/
theorem witness_ResetClearsTheMachine :
    ({ bootRom := some [0x31], bootOffAddr := 0xFF50, stopMode := .nop2 } : Parameters).bootRom = some [0x31] ∧
      ∀ a ∈ [0x8000, 0x9FFF, 0xC000, 0xFEFF, 0xFF80, (0xFFFF : Word)],
        (0x8000 ≤ a.toNat ∧ a.toNat ≤ 0x9FFF) ∨ (0xC000 ≤ a.toNat ∧ a.toNat ≤ 0xFEFF) ∨ 0xFF80 ≤ a.toNat := by
  refine ⟨rfl, ?_⟩
  simp only [List.mem_cons, List.not_mem_nil, or_false, forall_eq_or_imp, forall_eq]
  decide +kernel
theorem witness_StepKeepsWellFormed : testState.Inv ∧ ∃ t, step testState = .next t := ⟨testState_inv, _, rfl⟩
theorem witness_EnvironmentKeepsWellFormed : testState.Inv := testState_inv
theorem witness_StepKeepsImagesAndParameters : ∃ t, step testState = .next t := ⟨_, rfl⟩
/-- EI changes IME, HALT the halted state and, with IME clear, the halt bug; an instruction of 1 cycle and one of 6. -/
theorem witness_ControlStateFrame :
    (∃ t, exec .ei testState = .next t ∧ t.ime ≠ testState.ime ∧ t.cycles = 1) ∧
      (∃ t, exec .halt testState = .next t ∧ t.halted ≠ testState.halted ∧ t.haltBug = true) ∧
      ∃ t, exec (.callN16 0x0300) testState = .next t ∧ t.cycles = 6 :=
  ⟨⟨_, rfl, by decide, rfl⟩, ⟨_, rfl, by decide, rfl⟩, _, rfl, rfl⟩
theorem not_storeReaches {b : Bus} {a a' : Word} (h : b.boot.active = false) (ha : 0x7FFF < a.toNat)
    (hf : echoFold a'.toNat ≠ echoFold a.toNat) : ¬b.storeReaches a a' := by
  unfold Bus.storeReaches
  rw [if_neg (by simp [h]), if_neg (by omega)]
  exact hf

/-- A push and an address it does not reach, next to the two it does. -/
theorem witness_OnlyStoredBytesChange :
    (∃ t, exec .pushBc testState = .next t) ∧ isExternal (0xFFFD : Word).toNat = false ∧
      ¬(storesOf .pushBc testState).reach testState.bus 0xFFFD := by
  refine ⟨⟨_, rfl⟩, by decide, fun h => h.elim ?_ ?_⟩
  · exact not_storeReaches rfl (by decide +kernel) (by decide +kernel)
  · exact not_storeReaches (by decide +kernel) (by decide +kernel) (by decide +kernel)
theorem witness_DecodeOfEncode : Instr.wellFormed (.illegal 0xD3) = true ∧ Instr.wellFormed (.ldMemSp 0xFFFF) = true := by
  decide
/-- An instruction whose encoding begins the three bytes. -/
theorem witness_EncodeOfDecode : Instr.wellFormed (.ldAN8 0x5C) = true ∧ encode (.ldAN8 0x5C) <+: [0x3E, 0x5C, 0x00] := by
  decide
/-- The three clauses: a fault, a refusal and a next state. -/
theorem witness_StepRunsDecodedInstruction :
    (testState.stop = none ∧ testState.bus.cart.loaded = true ∧ testState.halted = false ∧
        decode [0x00, 0x00, 0x00] = .ok (.nop, [0x00, 0x00]) ∧ testState.byteAt 0x0200 = 0x00 ∧
        ∃ t, exec .nop (testState.afterRead 0x0200) = .next t) ∧
      (decode [0xD3, 0x00, 0x00] = .ok (.illegal 0xD3, [0x00, 0x00]) ∧
        exec (.illegal 0xD3) testState = .fault (.illegalOpcode 0x0200 0xD3)) ∧
      exec (.stop 0x00) testState = .refused (.stopUnmodelled 0x0200) :=
  ⟨⟨rfl, rfl, rfl, rfl, rfl, _, rfl⟩, ⟨rfl, rfl⟩, rfl⟩
/-- A halted state with nothing pending, and with the last kind pending and IME clear or set. -/
theorem witness_HaltedStepWaitsOrWakes :
    (∃ s : State, s.stop = none ∧ s.bus.cart.loaded = true ∧ s.halted = true ∧ s.bus.anyPending = false) ∧
      ∀ ime : Bool, ∃ s : State, s.stop = none ∧ s.bus.cart.loaded = true ∧ s.halted = true ∧ s.ime = ime ∧
        s.bus.ie.getLsbD IrqKind.joypad.bit = true ∧ s.bus.iflags.getLsbD IrqKind.joypad.bit = true :=
  ⟨⟨{ withIrqs 0xFF 0xE0 true with halted := true }, rfl, rfl, rfl, by decide⟩,
    fun ime => ⟨{ withIrqs 0x10 0x10 ime with halted := true }, rfl, rfl, rfl, rfl, by cases ime <;> decide, by cases ime <;> decide⟩⟩
/-- Both kinds at the ends of the order, and none. -/
theorem witness_SelectionIsByPriority :
    (withIrqs 0xFF 0xFF true).bus.selectInterrupt = some .vblank ∧ (withIrqs 0xFF 0xF0 true).bus.selectInterrupt = some .joypad ∧
      (withIrqs 0xFF 0xE0 true).bus.selectInterrupt = none := by decide +kernel
/-- An address that neither the IF write nor the pushes reach; a check that services, and three that do not. -/
theorem witness_ServiceEntersTheHandler :
    ((0xFFFB : Word) ≠ 0xFF0F ∧ ¬testState.bus.storeReaches (0xFFFE - 1) 0xFFFB ∧
        ¬testState.bus.storeReaches (0xFFFE - 2) 0xFFFB) ∧
      ((withIrqs 0x04 0x04 true).ime = true ∧ (withIrqs 0x04 0x04 true).bus.selectInterrupt = some .timer) ∧
      (withIrqs 0x04 0x04 false).ime = false ∧ (withIrqs 0x04 0x03 true).bus.selectInterrupt = none := by
  exact ⟨⟨by decide, not_storeReaches rfl (by decide +kernel) (by decide +kernel),
    not_storeReaches rfl (by decide +kernel) (by decide +kernel)⟩, by decide, rfl, by decide⟩
theorem witness_EnableDelayAndDisableAtOnce :
    ∀ op ∈ [(0xFB : Byte), 0xF3], ∃ s : State, s.stop = none ∧ s.bus.cart.loaded = true ∧ s.halted = false ∧
      s.haltBug = false ∧ isExternal s.pc.toNat = false ∧ s.pc.toNat ≠ 0xFF47 ∧ s.byteAt s.pc = op ∧ s.ime = false := by
  intro op h
  refine ⟨testState.withFetchWord 8 op.toNat, ?_⟩
  simp only [List.mem_cons, List.not_mem_nil, or_false] at h
  rcases h with rfl | rfl <;> decide +kernel
/-- A halted state, an illegal byte, STOP in the mode `refuse`, another byte; an ended run and one without a cartridge. -/
theorem witness_OnlyIllegalBytesAndStopEndARun :
    (testState.canStep ∧ testState.halted = false ∧ testState.byteAt testState.pc ∉ illegalBytes) ∧
      ({ testState with halted := true } : State).canStep ∧
      ((testState.withFetchWord 8 0xFD).canStep ∧
        (testState.withFetchWord 8 0xFD).byteAt (testState.withFetchWord 8 0xFD).pc ∈ illegalBytes) ∧
      ((testState.withFetchWord 8 0x10).canStep ∧ (testState.withFetchWord 8 0x10).byteAt 0x0200 = 0x10 ∧
        testState.stopMode = .refuse) ∧
      ({ testState with stop := some (.refusal .noCartridge) } : State).stop = some (.refusal .noCartridge) ∧
      State.reset.bus.cart.loaded = false ∧ (testState.stop = none ∧ 0xFFFF < 0x10000) := by
  refine ⟨⟨⟨rfl, rfl⟩, rfl, by decide⟩, ⟨rfl, rfl⟩, ⟨⟨rfl, rfl⟩, by decide⟩, ⟨⟨rfl, rfl⟩, rfl, rfl⟩, rfl, rfl, rfl, by decide⟩
/-- A push to plain storage at the top of memory, and one over the echo; every pair is pushed and popped from them. -/
theorem witness_PopAfterPushRestores :
    ∀ sp ∈ [(0x0000 : Word), 0xE002],
      let s : State := { testState with sp := sp }
      isPlain (s.sp - 1).toNat ∧ isPlain (s.sp - 2).toNat ∧ s.bus.boot.active = false ∧
        echoFold (s.sp - 1).toNat ≠ echoFold (s.sp - 2).toNat := by
  unfold isPlain
  simp only [List.mem_cons, List.not_mem_nil, or_false, forall_eq_or_imp, forall_eq]
  decide +kernel
theorem witness_PopAfterPushRestores_runs :
    ∃ t u, exec .pushBc testState = .next t ∧ exec .popAf t = .next u := ⟨_, _, rfl, rfl⟩
/-- 99 and 99, for each of the four operations. -/
theorem witness_DecimalArithmetic :
    let s := withRegs fun x => { x with a := 0x99, b := 0x99, f := 0x10 }
    s.regs.a.toNat = 16 * (99 / 10) + 99 % 10 ∧ (s.srcValue (.reg .b)).toNat = 16 * (99 / 10) + 99 % 10 ∧
      ∀ op ∈ [AluOp.add, .adc, .sub, .sbc], ∃ t u, exec (aluInstr op (.reg .b)) s = .next t ∧ exec .daa t = .next u := by
  refine ⟨by decide, by decide, fun op h => ?_⟩
  fin_cases h <;> exact ⟨_, _, rfl, rfl⟩
/-- Taken and not taken: Jumps, CallsPushTheReturnAddress and ReturnsPopThePc. -/
theorem witness_conditions :
    ∀ f ∈ [(0x00 : Byte), 0x90],
      let s := withRegs fun x => { x with f := f }
      (s.regs.flagZ = true ∨ s.regs.flagZ = false) ∧ (s.regs.flagZ = true ↔ f = 0x90) ∧ (s.regs.flagC = true ↔ f = 0x90) := by
  simp only [List.mem_cons, List.not_mem_nil, or_false, forall_eq_or_imp, forall_eq]
  decide +kernel
theorem witness_StopFollowsItsMode :
    testState.stopMode = .refuse ∧ ({ testState with stopMode := .nop2 } : State).stopMode = .nop2 := ⟨rfl, rfl⟩
theorem witness_IllegalBytesFault : (0xD3 : Byte) ∈ illegalBytes ∧ (0xFD : Byte) ∈ illegalBytes ∧ (0xCB : Byte) ∉ illegalBytes := by
  decide
/-- An instruction whose pc advance the mark skips, a jump, which the mark leaves alone, and a conditional one, not taken and
taken. -/
theorem witness_HaltBugRepeatsTheInstruction :
    ∀ i ∈ [(Instr.nop, false), (.jpN16 0x1234, true), (.jrZE8 0x10, false), (.jrNzE8 0x10, true), (.halt, false)],
      ∃ t t', exec i.1 { testState with haltBug := true } = .next t ∧
        exec i.1 { testState with haltBug := false } = .next t' ∧
        writesPc i.1 { testState with haltBug := true } = i.2 := by
  intro i hi
  fin_cases hi <;> exact ⟨_, _, rfl, rfl, rfl⟩
/-- The ends of every plain region, both aliases of the echo. -/
theorem witness_PlainStorageReadsBack :
    (∀ a ∈ [0x8000, 0x9FFF, 0xC000, 0xDDFF, 0xE000, 0xFDFF, 0xFE00, 0xFE9F, 0xFF01, 0xFF0F, 0xFF7F, 0xFF80, (0xFFFF : Word)],
        isPlain a.toNat ∧ ¬(testState.bus.boot.active = true ∧ a = testState.bus.boot.offAddr)) ∧
      echoFold (0xFDFF : Word).toNat = echoFold (0xDDFF : Word).toNat := by
  refine ⟨fun a ha => ⟨?_, fun h => absurd h.1 (by decide)⟩, by decide +kernel⟩
  unfold isPlain
  fin_cases ha <;> decide +kernel
theorem witness_SpecialAddresses :
    (∀ a : Word, ¬(testState.bus.boot.active = true ∧ a = testState.bus.boot.offAddr)) ∧
      (∀ a ∈ [(0xFEA0 : Word), 0xFEFF], 0xFEA0 ≤ a.toNat ∧ a.toNat ≤ 0xFEFF) ∧
      (∀ a ∈ [(0xFF00 : Word), 0xFF15, 0xFF3F], isExternal a.toNat = true) ∧
      ∀ a ∈ [(0xFF01 : Word), 0xFF14, 0xFF40], a.toNat ≠ 0xFF47 ∧ isExternal a.toNat = false := by
  refine ⟨fun a h => absurd h.1 (by decide), ?_⟩
  simp only [List.mem_cons, List.not_mem_nil, or_false, forall_eq_or_imp, forall_eq]
  decide +kernel
/-- The ends of the overlay and of bank 0 beyond it. -/
theorem witness_BootOverlayEnds :
    (∃ b : Bus, b.boot.image = some [(0, 0x11)] ∧ b.boot.active = true) ∧
      (∀ a ∈ [(0x0000 : Word), 0x00FF], a.toNat ≤ 0x00FF) ∧
      ∀ a ∈ [(0x0100 : Word), 0x3FFF], 0x0100 ≤ a.toNat ∧ a.toNat ≤ 0x3FFF := by
  refine ⟨⟨{ Bus.reset with boot := { image := some [(0, 0x11)], offAddr := 0x01FE, active := true } }, rfl, rfl⟩, ?_⟩
  simp only [List.mem_cons, List.not_mem_nil, or_false, forall_eq_or_imp, forall_eq]
  decide +kernel
/-- Mbc1Registers and Mbc3RegistersAndNoController: the ends of the four register ranges, for each kind. -/
theorem witness_controllers :
    (∀ k ∈ [ControllerKind.mbc1, .mbc3, .none], (busWith k 64 4).boot.active = false ∧ (busWith k 64 4).cart.kind = k) ∧
      (∀ a ∈ [(0x0000 : Word), 0x1FFF], a.toNat ≤ 0x1FFF) ∧
      (∀ a ∈ [(0x2000 : Word), 0x3FFF], 0x2000 ≤ a.toNat ∧ a.toNat ≤ 0x3FFF) ∧
      (∀ a ∈ [(0x4000 : Word), 0x5FFF], 0x4000 ≤ a.toNat ∧ a.toNat ≤ 0x5FFF) ∧
      ∀ a ∈ [(0x6000 : Word), 0x7FFF], 0x6000 ≤ a.toNat ∧ a.toNat ≤ 0x7FFF := by
  simp only [List.mem_cons, List.not_mem_nil, or_false, forall_eq_or_imp, forall_eq]
  decide +kernel
/-- The ends of the windows, with RAM reachable, disabled and absent. -/
theorem witness_CartridgeWindows :
    ((busWith .mbc1 2 1).write 0x0000 0x0A).cart.ramEnabled = true ∧ 0 < ((busWith .mbc1 2 1).write 0x0000 0x0A).cart.ramBankCount ∧
      ((busWith .mbc1 2 1).write 0x0000 0x0A).boot.active = false ∧
      ¬((busWith .mbc1 2 1).cart.ramEnabled = true ∧ 0 < (busWith .mbc1 2 1).cart.ramBankCount) ∧
      ¬(((busWith .mbc1 2 0).write 0x0000 0x0A).cart.ramEnabled = true ∧ 0 < (busWith .mbc1 2 0).cart.ramBankCount) ∧
      (∀ a ∈ [(0x4000 : Word), 0x7FFF], 0x4000 ≤ a.toNat ∧ a.toNat ≤ 0x7FFF) ∧
      ∀ a ∈ [(0xA000 : Word), 0xBFFF], 0xA000 ≤ a.toNat ∧ a.toNat ≤ 0xBFFF := by
  simp only [List.mem_cons, List.not_mem_nil, or_false, forall_eq_or_imp, forall_eq]
  decide +kernel

/-- An image of zeros but for the header bytes 0x0147 to 0x0149. -/
def image (length : Nat) (kind romSize ramSize : Byte) : List Byte :=
  List.replicate 0x0147 0 ++ [kind, romSize, ramSize] ++ List.replicate (length - 0x014A) 0

theorem header_getD (n : Nat) (l r : List Byte) (j : Nat) (h : j < l.length) :
    (List.replicate n 0 ++ l ++ r).getD (n + j) 0 = l.getD j 0 := by
  simp [List.getElem?_append, h]

theorem image_spec (length : Nat) (k n r : Byte) (h : 0x014A ≤ length) :
    (image length k n r).length = length ∧ (image length k n r).getD 0x0147 0 = k ∧
      (image length k n r).getD 0x0148 0 = n ∧ (image length k n r).getD 0x0149 0 = r := by
  refine ⟨?_, header_getD 0x0147 [k, n, r] _ 0 (by show 0 < 3; decide),
    header_getD 0x0147 [k, n, r] _ 1 (by show 1 < 3; decide), header_getD 0x0147 [k, n, r] _ 2 (by show 2 < 3; decide)⟩
  unfold image
  rw [List.length_append, List.length_append, List.length_replicate, List.length_replicate]
  show 0x0147 + 3 + (length - 0x014A) = length
  omega

/-- A short image; an unsupported kind; an image shorter than its bank count; a large RAM-size byte; and the largest RAM of
each controller. -/
theorem witness_LoadReadsTheHeader :
    ([] : List Byte).length < 0x0150 ∧
      (∀ k ∈ [(0x04 : Byte), 0x0E, 0x14, 0xFF], 0x0150 ≤ (image 0x8000 k 0 0).length ∧
        ¬(((image 0x8000 k 0 0).getD 0x0147 0).toNat = 0 ∨
          (1 ≤ ((image 0x8000 k 0 0).getD 0x0147 0).toNat ∧ ((image 0x8000 k 0 0).getD 0x0147 0).toNat ≤ 3) ∨
          (0x0F ≤ ((image 0x8000 k 0 0).getD 0x0147 0).toNat ∧ ((image 0x8000 k 0 0).getD 0x0147 0).toNat ≤ 0x13))) ∧
      (0x0150 ≤ (image 0x7FFF 0 0 0).length ∧
        (image 0x7FFF 0 0 0).length < 2 ^ (((image 0x7FFF 0 0 0).getD 0x0148 0).toNat + 1) * 0x4000) ∧
      5 < ((image 0x8000 0 0 6).getD 0x0149 0).toNat ∧
      ∀ k ∈ [(0x00 : Byte), 0x01, 0x03, 0x0F, 0x13],
        0x0150 ≤ (image 0x8000 k 0 5).length ∧ 2 ^ (((image 0x8000 k 0 5).getD 0x0148 0).toNat + 1) * 0x4000 ≤ 0x8000 ∧
          ((image 0x8000 k 0 5).getD 0x0149 0).toNat ≤ 5 := by
  refine ⟨by decide, fun k hk => ?_, ?_, ?_, fun k hk => ?_⟩
  · obtain ⟨hl, h1, -, -⟩ := image_spec 0x8000 k 0 0 (by decide)
    rw [hl, h1]
    simp only [List.mem_cons, List.not_mem_nil, or_false] at hk
    rcases hk with rfl | rfl | rfl | rfl <;> decide
  · obtain ⟨hl, -, h2, -⟩ := image_spec 0x7FFF 0 0 0 (by decide)
    rw [hl, h2]
    decide
  · rw [(image_spec 0x8000 0 0 6 (by decide)).2.2.2]; decide
  · obtain ⟨hl, -, h2, h3⟩ := image_spec 0x8000 k 0 5 (by decide)
    rw [hl, h2, h3]
    decide
/-- A quiet overlay, one whose exit register lies next to the timer's, and every period select. -/
theorem witness_TimerRegisters :
    ¬(testState.bus.boot.active = true ∧ 0xFF04 ≤ testState.bus.boot.offAddr.toNat ∧
        testState.bus.boot.offAddr.toNat ≤ 0xFF07) ∧
      ¬(0xFF04 ≤ (0xFF08 : Word).toNat ∧ (0xFF08 : Word).toNat ≤ 0xFF07) ∧
      ∀ j : Fin 4, ∃ tac : BitVec 3, tac.toNat % 4 = j.val := by decide +kernel
theorem witness_TimerCountsInClosedForm :
    Timer.reset.reloadPending = false ∧ Timer.reset.tac.getLsbD 2 = false ∧
      ({ Timer.reset with tac := 5 } : Timer).tac.getLsbD 2 = true := by decide
/-- The countdown just reached and one short of it, for a stopped and a running timer. -/
theorem witness_TimerReloadRequestsTheInterrupt :
    ∀ tac ∈ [(1 : BitVec 3), 5],
      let t : Timer := { Timer.reset with tac := tac, reloadPending := true, reloadCountdown := 4 }
      t.reloadPending = true ∧ (t.tac.getLsbD 2 = true ↔ tac = 5) ∧ t.reloadCountdown ≤ (4 : Nat) ∧
        ¬t.reloadCountdown ≤ (3 : Nat) := by decide
/-- The frequency at both ends of its range, and the trigger bit clear and set. -/
theorem witness_ChannelRegisters :
    (∀ freq ∈ [0, 2048], testState.bus.boot.active = false ∧ ({ testState.bus.ch1 with freq := freq } : Channel1).Inv) ∧
      (0x7F : Byte).toNat < 128 ∧ 128 ≤ (0x80 : Byte).toNat := by
  obtain ⟨-, h1, h2, h3, h4, h5, h6, h7⟩ := testState_inv.bus.ch1
  refine ⟨fun freq hf => ⟨rfl, ?_, h1, h2, h3, h4, h5, h6, h7⟩, by decide, by decide⟩
  simp only [List.mem_cons, List.not_mem_nil, or_false] at hf
  show freq ≤ 2048
  omega
/-- Every clause of the sweep clock, and one step with no clock and one with a clock. -/
theorem witness_SweepClockAndCalculation :
    Channel1.reset.sweepEnabled = false ∧
      (∀ period ∈ [(0 : BitVec 3), 1], ∀ shift ∈ [(0 : BitVec 3), 1],
        let c : Channel1 := { Channel1.reset with sweepEnabled := true, sweepTimer := 1, period := period, shift := shift }
        c.sweepEnabled = true ∧ c.sweepTimer ≤ 1) ∧
      (1 : Int) < ({ Channel1.reset with sweepTimer := 2 } : Channel1).sweepTimer ∧
      Channel1.reset.sweepAcc + 32768 ≤ 32768 ∧ 32768 < Channel1.reset.sweepAcc + 32769 ∧
      Channel1.reset.sweepAcc + 65536 ≤ 65536 := by
  refine ⟨rfl, by decide, by decide, ?_⟩
  show 0 + 32768 ≤ 32768 ∧ 32768 < 0 + 32769 ∧ 0 + 65536 ≤ 65536
  omega
/-- Every clause of the duty timer. -/
theorem witness_DutyTimerInClosedForm :
    ∀ freq ∈ [0, 1, 2047, 2048], freq ≤ 2048 ∧ ((4 : Nat) : Int) - 4 ≤ 0 ∧ (0 : Int) < ((5 : Nat) : Int) - 4 := by decide

end Sys2Proof.Machine
end

section
/-! SUPPORT. The registers (10_state.md): bytes, pairs and F as numbers, and the obligation on them (O17). -/

namespace Sys2Proof.Machine

/-! ### Bytes and pairs as numbers -/

/-- Masking the low nibble rounds a byte down to a multiple of 16 (R21). -/
theorem toNat_maskLowNibble (v : Byte) : (v &&& 0xF0).toNat = v.toNat / 16 * 16 := by
  revert v; decide

@[simp] theorem joinBytes_toNat (hi lo : Byte) : (joinBytes hi lo).toNat = 256 * hi.toNat + lo.toNat := by
  simp only [joinBytes, BitVec.toNat_ofNat]
  omega

theorem lowByte_toNat (w : Word) : (lowByte w).toNat = w.toNat % 256 := BitVec.toNat_ofNat _ _

theorem highByte_toNat (w : Word) : (highByte w).toNat = w.toNat / 256 := by
  simp only [highByte, BitVec.toNat_ofNat]
  omega

theorem lowByte_eq_ofNat_mod (w : Word) : lowByte w = BitVec.ofNat 8 (w.toNat % 256) := by
  apply BitVec.eq_of_toNat_eq
  rw [lowByte_toNat, BitVec.toNat_ofNat]
  omega

/-! ### Writing a pair (R22) -/

theorem Regs.setBc_eq (x : Regs) (v : Word) :
    x.setBc v = { x with b := BitVec.ofNat 8 (v.toNat / 256), c := BitVec.ofNat 8 (v.toNat % 256) } := by
  rw [Regs.setBc, highByte, lowByte_eq_ofNat_mod]

theorem Regs.setDe_eq (x : Regs) (v : Word) :
    x.setDe v = { x with d := BitVec.ofNat 8 (v.toNat / 256), e := BitVec.ofNat 8 (v.toNat % 256) } := by
  rw [Regs.setDe, highByte, lowByte_eq_ofNat_mod]

theorem Regs.setHl_eq (x : Regs) (v : Word) :
    x.setHl v = { x with h := BitVec.ofNat 8 (v.toNat / 256), l := BitVec.ofNat 8 (v.toNat % 256) } := by
  rw [Regs.setHl, highByte, lowByte_eq_ofNat_mod]

/-! ### F and AF (R21) -/

/-- A write of F keeps its high nibble as a number; every path that writes F goes through it. -/
theorem Regs.writeF_f_toNat (x : Regs) (v : Byte) : (x.writeF v).f.toNat = v.toNat / 16 * 16 :=
  toNat_maskLowNibble v

theorem Regs.putFlags_f_mod (x : Regs) (z n h c : Option Bool) : (x.putFlags z n h c).f.toNat % 16 = 0 := by
  rw [Regs.putFlags, Regs.writeF_f_toNat, Nat.mul_mod_left]

theorem Regs.setAf_f_toNat (x : Regs) (v : Word) : (x.setAf v).f.toNat = v.toNat % 256 / 16 * 16 := by
  rw [Regs.setAf, Regs.writeF_f_toNat, lowByte_toNat]

theorem Regs.setAf_a_toNat (x : Regs) (v : Word) : (x.setAf v).a.toNat = v.toNat / 256 := highByte_toNat v

theorem Regs.readF_toNat (x : Regs) : x.readF.toNat = x.f.toNat / 16 * 16 := toNat_maskLowNibble x.f

theorem Regs.af_toNat (x : Regs) : x.af.toNat = 256 * x.a.toNat + x.f.toNat / 16 * 16 := by
  rw [Regs.af, joinBytes_toNat, Regs.readF_toNat]

/-- Settles O17: each clause is the lemma that says what that read or write of the registers does. -/
theorem registersPairsAndF : Obligations.RegistersPairsAndF := by
  unfold Obligations.RegistersPairsAndF
  refine ⟨⟨Regs.get_set, Regs.set_f, fun x => ?pairsRead, fun x v => ?pairsWritten⟩,
    Regs.putFlags_f_mod, Regs.writeF_f_toNat, fun x v => ?afWritten, fun x => ?fRead⟩
  case pairsRead => exact ⟨joinBytes_toNat x.b x.c, joinBytes_toNat x.d x.e, joinBytes_toNat x.h x.l⟩
  case pairsWritten => exact ⟨x.setBc_eq v, x.setDe_eq v, x.setHl_eq v⟩
  case afWritten => exact ⟨x.setAf_f_toNat v, x.setAf_a_toNat v⟩
  case fRead => exact ⟨x.readF_toNat, x.af_toNat⟩

end Sys2Proof.Machine
end

section
/-! SUPPORT. The 8-bit loads (41_loads8.md): what each shared load operation leaves, the encodings of the register fields, and
the obligations on them (O18, O19, O20). -/

namespace Sys2Proof.Machine

/-! ### The shared operations of the loads -/

/-- An unconditional instruction whose effect replaces the registers and the bus only. -/
theorem runFixed_eq_retired {effect : State → State} {s : State} {r : Regs} {b : Bus} (len cost : Nat)
    (h : effect s.consumeHaltBug = { s.consumeHaltBug with regs := r, bus := b }) :
    runFixed len cost effect s = .next { s.retired len cost with regs := r, bus := b } := by
  rw [runFixed_eq, h]
  rfl

theorem runLoadRegReg_eq (dst src : Reg8) (s : State) :
    runLoadRegReg dst src s = .next { s.retired 1 1 with regs := s.regs.set dst (s.regs.get src) } :=
  runFixed_eq_retired 1 1 rfl

theorem runLoadRegImm_eq (dst : Reg8) (n8 : Byte) (s : State) :
    runLoadRegImm dst n8 s = .next { s.retired 2 2 with regs := s.regs.set dst n8 } :=
  runFixed_eq_retired 2 2 rfl

theorem runLoadRegMem_eq (dst : Reg8) (s : State) :
    runLoadRegMem dst s =
      .next
        { s.retired 1 2 with
          regs := s.regs.set dst (s.bus.read s.regs.hl), bus := s.bus.afterRead s.regs.hl } :=
  runFixed_eq_retired 1 2 rfl

theorem runLoadA_eq (len cost : Nat) (a : Word) (s : State) :
    runLoadA len cost a s =
      .next { s.retired len cost with regs := { s.regs with a := s.bus.read a }, bus := s.bus.afterRead a } :=
  runFixed_eq_retired len cost rfl

/-- An unconditional instruction whose effect is one store has the frame of that store. -/
theorem storesOneByte_runFixed {effect : State → State} {s : State} {a : Word} {v : Byte} (len cost : Nat)
    (h : effect s.consumeHaltBug = s.consumeHaltBug.store a v) :
    StoresOneByte (runFixed len cost effect s) { s.retired len cost with bus := s.bus.write a v } s.bus a :=
  ⟨runFixed_eq_retired len cost h, fun _ hother => Bus.read_write_other v hother⟩

theorem storesOneByte_runStoreMemReg (src : Reg8) (s : State) :
    StoresOneByte (runStoreMemReg src s) { s.retired 1 2 with bus := s.bus.write s.regs.hl (s.regs.get src) } s.bus
      s.regs.hl :=
  storesOneByte_runFixed 1 2 rfl

theorem storesOneByte_runStoreA (len cost : Nat) (a : Word) (s : State) :
    StoresOneByte (runStoreA len cost a s) { s.retired len cost with bus := s.bus.write a s.regs.a } s.bus a :=
  storesOneByte_runFixed len cost rfl

/-! ### Addresses and encodings -/

/-- The high-page address as a number (R106). -/
theorem highPage_eq_ofNat (n8 : Byte) : highPage n8 = BitVec.ofNat 16 (0xFF00 + n8.toNat) := by
  rw [highPage, BitVec.ofNat_add, BitVec.ofNat_toNat]
  rfl

theorem encode_loadRegReg (dst src : Reg8) : encode (loadRegReg dst src) = [opByte 1 dst.code src.code] := by
  cases dst <;> cases src <;> rfl

theorem encode_loadRegImm (dst : Reg8) (n8 : Byte) : encode (loadRegImm dst n8) = [opByte 0 dst.code 6, n8] := by
  cases dst <;> rfl

theorem encode_loadRegMem (dst : Reg8) : encode (loadRegMem dst) = [opByte 1 dst.code 6] := by
  cases dst <;> rfl

theorem encode_storeMemReg (src : Reg8) : encode (storeMemReg src) = [opByte 1 6 src.code] := by
  cases src <;> rfl

/-! ### The obligations -/

/-- Settles O20: every form is the shared store of a register or an immediate at HL, or of A at the form's address. -/
theorem storeToMemory : Obligations.StoreToMemory := by
  unfold Obligations.StoreToMemory
  refine ⟨fun s => ⟨fun src => ⟨encode_storeMemReg src, ?reg⟩, fun n8 => ⟨rfl, ?imm⟩⟩,
    fun s => ⟨⟨rfl, ?bc⟩, ⟨rfl, ?de⟩, fun n16 => ⟨rfl, ?abs⟩, fun n8 => ⟨rfl, ?high⟩, ⟨rfl, ?highC⟩⟩⟩
  case reg => rw [exec_storeMemReg]; exact storesOneByte_runStoreMemReg src s
  case imm => exact storesOneByte_runFixed (effect := fun t => t.store t.hl n8) 2 3 rfl
  case bc => exact storesOneByte_runStoreA 1 2 s.regs.bc s
  case de => exact storesOneByte_runStoreA 1 2 s.regs.de s
  case abs => exact storesOneByte_runStoreA 3 4 n16 s
  case high => rw [← highPage_eq_ofNat]; exact storesOneByte_runStoreA 2 3 (highPage n8) s
  case highC => rw [← highPage_eq_ofNat]; exact storesOneByte_runStoreA 1 2 (highPage s.regs.c) s

/-- Settles O18: both forms are the shared loads of a register. -/
theorem loadRegister : Obligations.LoadRegister := by
  unfold Obligations.LoadRegister
  refine ⟨fun dst src s => ⟨encode_loadRegReg dst src, ?reg⟩, fun dst n8 s => ⟨encode_loadRegImm dst n8, ?imm⟩⟩
  case reg => rw [exec_loadRegReg, runLoadRegReg_eq]
  case imm => rw [exec_loadRegImm, runLoadRegImm_eq]

/-- Settles O19: every form is the shared load of a register at HL, or of A at the form's address. -/
theorem loadFromMemory : Obligations.LoadFromMemory := by
  unfold Obligations.LoadFromMemory
  refine ⟨fun dst s => ⟨encode_loadRegMem dst, ?hl⟩,
    fun s => ⟨⟨rfl, ?bc⟩, ⟨rfl, ?de⟩, fun n16 => ⟨rfl, ?abs⟩, fun n8 => ⟨rfl, ?high⟩, ⟨rfl, ?highC⟩⟩⟩
  case hl => rw [exec_loadRegMem, runLoadRegMem_eq]
  case bc => exact runLoadA_eq 1 2 s.regs.bc s
  case de => exact runLoadA_eq 1 2 s.regs.de s
  case abs => exact runLoadA_eq 3 4 n16 s
  case high => rw [← highPage_eq_ofNat]; exact runLoadA_eq 2 3 (highPage n8) s
  case highC => rw [← highPage_eq_ofNat]; exact runLoadA_eq 1 2 (highPage s.regs.c) s

end Sys2Proof.Machine
end

section
/-! SUPPORT. The 16-bit loads and the stack (42_loads16.md): what a load of a pair or of SP and a pop leave, their encodings,
and the obligations on them (O22, O24). -/

namespace Sys2Proof.Machine

/-! ### The shared operations of the 16-bit loads -/

theorem runLoadPairImm_eq (p : Pair) (n16 : Word) (s : State) :
    runLoadPairImm p n16 s = .next ((s.retired 3 3).setPair p n16) := by
  rw [runLoadPairImm, runFixed_eq]
  cases p <;> rfl

theorem execLdSpHl_eq (s : State) : execLdSpHl s = .next { s.retired 1 2 with sp := s.regs.hl } := by
  rw [execLdSpHl, runFixed_eq]
  rfl

/-! ### Popping a pair (R164, R167) -/

/-- `Pop16()` reads `sp` and `sp + 1` and moves `sp` past them. -/
theorem State.afterPop16_eq (s : State) :
    s.afterPop16 = { s with sp := s.sp + 2, bus := (s.bus.afterRead s.sp).afterRead (s.sp + 1) } := by
  have hsp : s.sp + 1 + 1 = s.sp + 2 := by bv_omega
  rw [← hsp]
  rfl

/-- The pair of the field `rp2` written byte by byte; F takes the high nibble only (R21). -/
theorem State.setStackPair_joinBytes (s : State) (p : StackPair) (hi lo : Byte) :
    s.setStackPair p (joinBytes hi lo) =
      { s with
        regs :=
          match p with
          | .bc => { s.regs with b := hi, c := lo }
          | .de => { s.regs with d := hi, e := lo }
          | .hl => { s.regs with h := hi, l := lo }
          | .af => { s.regs with a := hi, f := lo &&& 0xF0 } } := by
  cases p <;>
    simp only [setStackPair, Regs.setBc, Regs.setDe, Regs.setHl, Regs.setAf, Regs.writeF, highByte_joinBytes,
      lowByte_joinBytes]

/-- POP is `Pop16()` and then the write of the pair, on the state retired. -/
theorem runPop_eq (p : StackPair) (s : State) :
    runPop p s =
      .next
        ({ s.retired 1 3 with
            sp := s.sp + 2
            bus := (s.bus.afterRead s.sp).afterRead (s.sp + 1) }.setStackPair p
          (joinBytes ((s.bus.afterRead s.sp).read (s.sp + 1)) (s.bus.read s.sp))) := by
  rw [runPop, runFixed_eq, State.afterPop16_eq]
  cases p <;> rfl

/-! ### Encodings -/

theorem encode_loadPairImm (p : Pair) (n16 : Word) :
    encode (loadPairImm p n16) = [opByte 0 (2 * p.code) 1, lowByte n16, highByte n16] := by
  cases p <;> rfl

theorem encode_popPair (p : StackPair) : encode (popPair p) = [opByte 3 (2 * p.code) 1] := by
  cases p <;> rfl

/-! ### The obligations -/

/-- Settles O22: each pair is the shared load of an immediate word, and `LD SP,HL` replaces `sp` alone. -/
theorem loadPairAndStackPointer : Obligations.LoadPairAndStackPointer := by
  unfold Obligations.LoadPairAndStackPointer
  refine fun s => ⟨fun p n16 => ⟨encode_loadPairImm p n16, ?imm⟩, rfl, execLdSpHl_eq s⟩
  case imm =>
    rw [exec_loadPairImm, runLoadPairImm_eq]
    cases p <;> rfl

/-- Settles O24: the pair is written byte by byte from the two bytes that `Pop16()` reads. -/
theorem popLoadsThePair : Obligations.PopLoadsThePair := by
  unfold Obligations.PopLoadsThePair
  refine fun p s => ⟨encode_popPair p, ?popped⟩
  case popped =>
    rw [exec_popPair, runPop_eq, State.setStackPair_joinBytes]
    cases p <;> rfl

end Sys2Proof.Machine
end

section
/-! SUPPORT. The 8-bit arithmetic and logic (43_alu8.md): what the ALU group leaves for any source, its results and those of INC,
DEC and DAA as numbers, the encodings, and the obligations on them (O27 to O32). -/

namespace Sys2Proof.Machine

/-! ### The ALU group: A and F replaced, the source read (R170 to R178) -/

theorem State.putAlu_eq (s : State) (op : AluOp) (r : AluResult) :
    s.putAlu op r =
      { s with
        regs := { s.regs with a := if aluWritesA op then r.value else s.regs.a, f := flagByte r.z r.n r.h r.c } } := by
  rw [State.putAlu, State.putResultFlags, State.putFlags, Regs.putFlags_eq]
  cases aluWritesA op <;> rfl

theorem runAlu_eq (op : AluOp) (src : AluSrc) (s : State) :
    let r := alu op s.regs.a (s.srcValue src) s.carry
    runAlu op src s =
      .next
        { (s.afterSrc src).retired (srcLength src) (srcCost src) with
          regs := { s.regs with a := if aluWritesA op then r.value else s.regs.a, f := flagByte r.z r.n r.h r.c } } := by
  rw [runAlu, runFixed_eq, State.putAlu_eq]
  cases src <;> rfl

/-- An ALU instruction whose result is known. -/
theorem exec_aluInstr_of_alu (op : AluOp) (src : AluSrc) (s : State) {r : AluResult}
    (h : alu op s.regs.a (s.srcValue src) s.carry = r) :
    exec (aluInstr op src) s =
      .next
        { (s.afterSrc src).retired (srcLength src) (srcCost src) with
          regs := { s.regs with a := if aluWritesA op then r.value else s.regs.a, f := flagByte r.z r.n r.h r.c } } := by
  rw [exec_aluInstr, runAlu_eq, h]

/-! ### The results as numbers -/

theorem ofNat_beq_zero (n : Nat) : ((BitVec.ofNat 8 n : Byte) == 0) = decide (n % 256 = 0) := by
  rw [beq_eq_decide, decide_eq_decide, ← BitVec.toNat_inj, BitVec.toNat_ofNat]
  rfl

/-- The sum on unbounded numbers (R171, R172). -/
theorem aluAdd_eq (a v : Byte) (carry : Nat) :
    aluAdd a v carry =
      { value := BitVec.ofNat 8 (a.toNat + v.toNat + carry)
        z := decide ((a.toNat + v.toNat + carry) % 256 = 0)
        n := false
        h := decide (0x0F < a.toNat % 16 + v.toNat % 16 + carry)
        c := decide (0xFF < a.toNat + v.toNat + carry) } := by
  rw [aluAdd, ofNat_beq_zero]

/-- A difference of bytes, lifted by a multiple of 256 that keeps it above 0. -/
theorem sub_sub_ofNat_eq_ofNat (a v : Byte) {borrow : Nat} (hb : borrow ≤ 1) :
    a - v - BitVec.ofNat 8 borrow = BitVec.ofNat 8 (a.toNat + 512 - v.toNat - borrow) := by
  bv_omega

/-- The difference on unbounded numbers (R173, R174, R178). -/
theorem aluSub_eq (a v : Byte) {borrow : Nat} (hb : borrow ≤ 1) :
    aluSub a v borrow =
      { value := BitVec.ofNat 8 (a.toNat + 512 - v.toNat - borrow)
        z := decide ((a.toNat + 512 - v.toNat - borrow) % 256 = 0)
        n := true
        h := decide (a.toNat % 16 < v.toNat % 16 + borrow)
        c := decide (a.toNat < v.toNat + borrow) } := by
  rw [aluSub, sub_sub_ofNat_eq_ofNat a v hb, ofNat_beq_zero]

theorem aluLogic_eq (value : Byte) (h : Bool) :
    aluLogic value h = { value := value, z := decide (value = 0), n := false, h := h, c := false } := by
  rw [aluLogic, beq_eq_decide]

/-! ### INC and DEC (R179 to R182) -/

theorem incHalf_eq (v : Byte) : incHalf v = decide (v.toNat % 16 = 15) := by
  revert v; decide

theorem decHalf_eq (v : Byte) : decHalf v = decide (v.toNat % 16 = 0) := by
  revert v; decide

theorem add_one_eq_ofNat (v : Byte) : v + 1 = BitVec.ofNat 8 (v.toNat + 1) := by
  bv_omega

theorem sub_one_eq_ofNat (v : Byte) : v - 1 = BitVec.ofNat 8 (v.toNat + 255) := by
  bv_omega

theorem add_one_beq_zero (v : Byte) : (v + 1 == 0) = decide (v.toNat = 255) := by
  rw [beq_eq_decide, decide_eq_decide]
  bv_omega

theorem sub_one_beq_zero (v : Byte) : (v - 1 == 0) = decide (v.toNat = 1) := by
  rw [beq_eq_decide, decide_eq_decide]
  bv_omega

/-- The flags of INC, as numbers; C is left. -/
theorem Regs.putFlags_inc (x : Regs) (v : Byte) :
    x.putFlags (some (v + 1 == 0)) (some false) (some (incHalf v)) none =
      { x with f := flagByte (decide (v.toNat = 255)) false (decide (v.toNat % 16 = 15)) x.flagC } := by
  rw [Regs.putFlags_eq, add_one_beq_zero, incHalf_eq]
  rfl

/-- The flags of DEC, as numbers; C is left. -/
theorem Regs.putFlags_dec (x : Regs) (v : Byte) :
    x.putFlags (some (v - 1 == 0)) (some true) (some (decHalf v)) none =
      { x with f := flagByte (decide (v.toNat = 1)) true (decide (v.toNat % 16 = 0)) x.flagC } := by
  rw [Regs.putFlags_eq, sub_one_beq_zero, decHalf_eq]
  rfl

theorem Regs.flagC_set (x : Regs) (r : Reg8) (v : Byte) : (x.set r v).flagC = x.flagC := by
  rw [Regs.flagC, Regs.set_f, Regs.flagC]

/-- An unconditional instruction that replaces the registers and ends with one store has the frame of that store. -/
theorem storesOneByte_runFixed_regs {effect : State → State} {s : State} {r : Regs} {b : Bus} {a : Word} {v : Byte}
    (len cost : Nat) (h : effect s.consumeHaltBug = { s.consumeHaltBug with regs := r, bus := b.write a v }) :
    StoresOneByte (runFixed len cost effect s) { s.retired len cost with regs := r, bus := b.write a v } b a :=
  ⟨runFixed_eq_retired len cost h, fun _ hother => Bus.read_write_other v hother⟩

theorem runInc_reg (r : Reg8) (s : State) :
    let v := s.regs.get r
    runInc (.reg r) s =
      .next
        { s.retired 1 1 with
          regs :=
            { s.regs.set r (BitVec.ofNat 8 (v.toNat + 1)) with
              f := flagByte (decide (v.toNat = 255)) false (decide (v.toNat % 16 = 15)) s.regs.flagC } } := by
  intro v
  rw [← add_one_eq_ofNat, ← Regs.flagC_set s.regs r (v + 1), ← Regs.putFlags_inc]
  exact runFixed_eq_retired 1 1 rfl

theorem runDec_reg (r : Reg8) (s : State) :
    let v := s.regs.get r
    runDec (.reg r) s =
      .next
        { s.retired 1 1 with
          regs :=
            { s.regs.set r (BitVec.ofNat 8 (v.toNat + 255)) with
              f := flagByte (decide (v.toNat = 1)) true (decide (v.toNat % 16 = 0)) s.regs.flagC } } := by
  intro v
  rw [← sub_one_eq_ofNat, ← Regs.flagC_set s.regs r (v - 1), ← Regs.putFlags_dec]
  exact runFixed_eq_retired 1 1 rfl

/-- The byte at HL read, then stored one up: two bus accesses (R180). -/
theorem runInc_atHl (s : State) :
    let v := s.bus.read s.regs.hl
    let b := s.bus.afterRead s.regs.hl
    StoresOneByte (runInc .atHl s)
      { s.retired 1 3 with
        regs :=
          { s.regs with
            f := flagByte (decide (v.toNat = 255)) false (decide (v.toNat % 16 = 15)) s.regs.flagC }
        bus := b.write s.regs.hl (BitVec.ofNat 8 (v.toNat + 1)) } b s.regs.hl := by
  intro v b
  rw [← add_one_eq_ofNat, ← Regs.putFlags_inc]
  exact storesOneByte_runFixed_regs 1 3 rfl

/-- The byte at HL read, then stored one down: two bus accesses (R182). -/
theorem runDec_atHl (s : State) :
    let v := s.bus.read s.regs.hl
    let b := s.bus.afterRead s.regs.hl
    StoresOneByte (runDec .atHl s)
      { s.retired 1 3 with
        regs :=
          { s.regs with
            f := flagByte (decide (v.toNat = 1)) true (decide (v.toNat % 16 = 0)) s.regs.flagC }
        bus := b.write s.regs.hl (BitVec.ofNat 8 (v.toNat + 255)) } b s.regs.hl := by
  intro v b
  rw [← sub_one_eq_ofNat, ← Regs.putFlags_dec]
  exact storesOneByte_runFixed_regs 1 3 rfl

/-! ### DAA (R183) -/

/-- The two adjustments share no bit, so joining them adds them. -/
theorem toNat_adjust_or (p q : Prop) [Decidable p] [Decidable q] :
    ((if p then 0x06 else 0x00 : Byte) ||| (if q then 0x60 else 0x00)).toNat =
      (if p then 6 else 0) + (if q then 0x60 else 0) := by
  by_cases p <;> by_cases q <;> simp [*]

theorem daaAddAdjust_toNat (a : Byte) (h c : Bool) : (daaAddAdjust a h c).toNat = daaNat a.toNat false h c := by
  rw [daaAddAdjust, daaHigh, toNat_adjust_or]
  simp [daaNat]

theorem daaSubAdjust_toNat (a : Nat) (h c : Bool) : (daaSubAdjust h c).toNat = daaNat a true h c := by
  rw [daaSubAdjust, toNat_adjust_or]
  simp [daaNat]

theorem daaValue_toNat (a : Byte) (n h c : Bool) :
    (daaValue a n h c).toNat =
      if n then (a.toNat + 256 - daaNat a.toNat n h c) % 256 else (a.toNat + daaNat a.toNat n h c) % 256 := by
  cases n with
  | false => rw [daaValue, ← daaAddAdjust_toNat]; exact BitVec.toNat_add _ _
  | true =>
    have hadj : (daaSubAdjust h c).toNat < 256 := (daaSubAdjust h c).isLt
    rw [daaValue, ← daaSubAdjust_toNat]
    simp only [if_true, BitVec.toNat_sub]
    omega

theorem daaCarry_eq (a : Byte) (n c : Bool) : daaCarry a n c = (c || (!n && decide (0x99 < a.toNat))) := by
  cases n <;> simp [daaCarry, daaHigh]

/-- DAA's effect: A adjusted, Z, H and C written, N left (R183). -/
theorem execDaa_eq (s : State) :
    let value := daaValue s.regs.a s.regs.flagN s.regs.flagH s.regs.flagC
    execDaa s =
      .next
        { s.retired 1 1 with
          regs :=
            { s.regs with
              a := value
              f := flagByte (decide (value.toNat = 0)) s.regs.flagN false
                (s.regs.flagC || (!s.regs.flagN && decide (0x99 < s.regs.a.toNat))) } } := by
  intro value
  have hz : (value == 0) = decide (value.toNat = 0) := by
    rw [beq_eq_decide, decide_eq_decide, ← BitVec.toNat_inj]
    rfl
  rw [← daaCarry_eq, ← hz]
  exact (runFixed_eq_retired 1 1 rfl).trans (by rw [Regs.putFlags_eq]; rfl)

/-! ### CPL, SCF and CCF (R184 to R186) -/

theorem xor_ones_eq_ofNat (a : Byte) : a ^^^ 0xFF = BitVec.ofNat 8 (255 - a.toNat) := by
  have hnot : a ^^^ 0xFF = ~~~a := BitVec.xor_allOnes
  rw [hnot, ← BitVec.toNat_inj, BitVec.toNat_not, BitVec.toNat_ofNat]
  omega

theorem execCpl_eq (s : State) :
    execCpl s =
      .next
        { s.retired 1 1 with
          regs :=
            { s.regs with
              a := BitVec.ofNat 8 (255 - s.regs.a.toNat), f := flagByte s.regs.flagZ true true s.regs.flagC } } := by
  rw [← xor_ones_eq_ofNat]
  exact (runFixed_eq_retired 1 1 rfl).trans (by rw [Regs.putFlags_eq]; rfl)

theorem execScf_eq (s : State) :
    execScf s = .next { s.retired 1 1 with regs := { s.regs with f := flagByte s.regs.flagZ false false true } } :=
  (runFixed_eq_retired 1 1 rfl).trans (by rw [Regs.putFlags_eq]; rfl)

theorem execCcf_eq (s : State) :
    execCcf s =
      .next { s.retired 1 1 with regs := { s.regs with f := flagByte s.regs.flagZ false false !s.regs.flagC } } :=
  (runFixed_eq_retired 1 1 rfl).trans (by rw [Regs.putFlags_eq]; rfl)

/-! ### Encodings -/

theorem encode_aluInstr_reg (op : AluOp) (r : Reg8) : encode (aluInstr op (.reg r)) = [opByte 2 op.code r.code] := by
  cases op <;> cases r <;> rfl

theorem encode_aluInstr_atHl (op : AluOp) : encode (aluInstr op .atHl) = [opByte 2 op.code 6] := by
  cases op <;> rfl

theorem encode_aluInstr_imm (op : AluOp) (n8 : Byte) :
    encode (aluInstr op (.imm n8)) = [opByte 3 op.code 6, n8] := by
  cases op <;> rfl

theorem encode_incTarget (t : Target) : encode (incTarget t) = [opByte 0 t.code 4] := by
  rcases t with (_ | _ | _ | _ | _ | _ | _) | _ <;> rfl

theorem encode_decTarget (t : Target) : encode (decTarget t) = [opByte 0 t.code 5] := by
  rcases t with (_ | _ | _ | _ | _ | _ | _) | _ <;> rfl

/-! ### The obligations -/

/-- Settles O28: ADD is the sum without a carry in, ADC the sum with the old C. -/
theorem addAndAddWithCarry : Obligations.AddAndAddWithCarry := by
  unfold Obligations.AddAndAddWithCarry
  refine fun src s => ⟨?add, ?adc⟩
  case add => exact exec_aluInstr_of_alu .add src s (aluAdd_eq s.regs.a (s.srcValue src) 0)
  case adc => exact exec_aluInstr_of_alu .adc src s (aluAdd_eq s.regs.a (s.srcValue src) s.carry)

/-- Settles O29: SUB and CP are the difference without a borrow in, SBC the difference with the old C, which is at most 1;
CP alone does not write A. -/
theorem subtractAndCompare : Obligations.SubtractAndCompare := by
  unfold Obligations.SubtractAndCompare
  refine fun src s => ⟨?sub, ?sbc, ?cp⟩
  case sub => exact exec_aluInstr_of_alu .sub src s (aluSub_eq s.regs.a (s.srcValue src) (Nat.zero_le 1))
  case sbc => exact exec_aluInstr_of_alu .sbc src s (aluSub_eq s.regs.a (s.srcValue src) (Bool.toNat_le s.regs.flagC))
  case cp =>
    rw [exec_aluInstr_of_alu .cp src s (aluSub_eq s.regs.a (s.srcValue src) (Nat.zero_le 1))]
    rfl

/-- Settles O31: the register form is one write of the register, the form at HL one read and then one store. -/
theorem incrementAndDecrement : Obligations.IncrementAndDecrement := by
  unfold Obligations.IncrementAndDecrement
  refine fun t s => ⟨encode_incTarget t, encode_decTarget t, ?_⟩
  rw [exec_incTarget, exec_decTarget]
  cases t with
  | reg r => exact ⟨runInc_reg r s, runDec_reg r s⟩
  | atHl => exact ⟨runInc_atHl s, runDec_atHl s⟩

/-- Settles O32: DAA's value is the byte of its result as a number; the three others are their equations. -/
theorem decimalAdjustAndComplement : Obligations.DecimalAdjustAndComplement := by
  unfold Obligations.DecimalAdjustAndComplement
  refine ⟨fun s => ⟨rfl, ?daa⟩, fun s => ⟨⟨rfl, execCpl_eq s⟩, ⟨rfl, execScf_eq s⟩, rfl, execCcf_eq s⟩⟩
  case daa =>
    rw [← daaValue_toNat, BitVec.ofNat_toNat, BitVec.setWidth_eq]
    exact execDaa_eq s

/-- Settles O27: each form by its definition and its encoding. -/
theorem aluSourceForms : Obligations.AluSourceForms := by
  unfold Obligations.AluSourceForms
  refine fun op s => ⟨fun r => ?reg, ?atHl, fun n8 => ?imm⟩
  case reg => exact ⟨rfl, rfl, encode_aluInstr_reg op r, rfl, rfl⟩
  case atHl => exact ⟨rfl, rfl, encode_aluInstr_atHl op, rfl, rfl⟩
  case imm => exact ⟨rfl, rfl, encode_aluInstr_imm op n8, rfl, rfl⟩

/-- Settles O30: each operation is its bitwise result with H as the rule gives it. -/
theorem logicOperations : Obligations.LogicOperations := by
  unfold Obligations.LogicOperations
  refine fun src s => ⟨?and, ?xor, ?or⟩
  case and => exact exec_aluInstr_of_alu .and src s (aluLogic_eq (s.regs.a &&& s.srcValue src) true)
  case xor => exact exec_aluInstr_of_alu .xor src s (aluLogic_eq (s.regs.a ^^^ s.srcValue src) false)
  case or => exact exec_aluInstr_of_alu .or src s (aluLogic_eq (s.regs.a ||| s.srcValue src) false)

end Sys2Proof.Machine
end

section
/-! SUPPORT. The rotates, shifts and bit instructions (45_rotate_shift_bit.md): their results and flags as numbers, what the
rotates of A leave, the encodings, and the obligations on them (O36 to O39). -/

namespace Sys2Proof.Machine

/-! ### One bit of a byte -/

theorem toNat_highBit (v : Byte) : (v.getLsbD 7).toNat = v.toNat / 128 := by
  have hlt : v.toNat / 128 < 2 := Nat.div_lt_of_lt_mul v.isLt
  exact (Nat.toNat_testBit v.toNat 7).trans (Nat.mod_eq_of_lt hlt)

theorem toNat_lowBit (v : Byte) : (v.getLsbD 0).toNat = v.toNat % 2 := by
  rw [BitVec.getLsbD, Nat.toNat_testBit, Nat.pow_zero, Nat.div_one]

theorem not_getLsbD_eq (v : Byte) (i : Nat) : (!v.getLsbD i) = decide (v.toNat / 2 ^ i % 2 = 0) := by
  rw [BitVec.getLsbD, Nat.testBit_eq_decide_div_mod_eq, ← decide_not, decide_eq_decide]
  exact Nat.mod_two_not_eq_one

/-! ### The results of the rotates and shifts as numbers (R205 to R212) -/

theorem bitByte_toNat (b : Bool) : (bitByte b).toNat = b.toNat := by
  cases b <;> rfl

theorem bitByte_shiftLeft_toNat (b : Bool) : (bitByte b <<< 7).toNat = 2 ^ 7 * b.toNat := by
  cases b <;> rfl

theorem and_highBit (v : Byte) : v &&& (0x80 : Byte) = bitByte (v.getLsbD 7) <<< 7 := by
  refine (BitVec.and_twoPow v 7).trans ?_
  cases v.getLsbD 7 <;> rfl

theorem shiftLeft_one_toNat (v : Byte) : (v <<< 1).toNat = 2 ^ 1 * (v.toNat % 128) := by
  rw [BitVec.toNat_shiftLeft, Nat.shiftLeft_eq, Nat.mul_comm]
  exact Nat.mul_mod_mul_left 2 v.toNat 128

/-- A byte shifted left with a bit put in at the right. -/
theorem shiftLeft_or_bitByte_toNat (v : Byte) (b : Bool) :
    ((v <<< 1) ||| bitByte b).toNat = 2 * (v.toNat % 128) + b.toNat := by
  rw [BitVec.toNat_or, shiftLeft_one_toNat, bitByte_toNat, ← Nat.two_pow_add_eq_or_of_lt b.toNat_lt]

/-- A byte shifted right with a bit put in at the left. -/
theorem shiftRight_or_bitByte_toNat (v : Byte) (b : Bool) :
    ((v >>> 1) ||| (bitByte b <<< 7)).toNat = v.toNat / 2 + 128 * b.toNat := by
  have hshift : (v >>> 1).toNat = v.toNat / 2 := Nat.shiftRight_eq_div_pow v.toNat 1
  have hlow : v.toNat / 2 < 2 ^ 7 := Nat.div_lt_of_lt_mul v.isLt
  rw [BitVec.or_comm, BitVec.toNat_or, hshift, bitByte_shiftLeft_toNat,
    ← Nat.two_pow_add_eq_or_of_lt hlow, Nat.add_comm]

theorem swapNibbles_toNat (v : Byte) :
    (((v &&& 0x0F) <<< 4) ||| (v >>> 4)).toNat = 16 * (v.toNat % 16) + v.toNat / 16 := by
  have hlow : (v &&& 0x0F).toNat = v.toNat % 16 := Nat.and_two_pow_sub_one_eq_mod v.toNat 4
  have hhigh : ((v &&& 0x0F) <<< 4).toNat = 2 ^ 4 * (v.toNat % 16) := by
    rw [BitVec.toNat_shiftLeft, Nat.shiftLeft_eq, hlow, Nat.mul_comm]
    exact (Nat.mul_mod_mul_left 16 (v.toNat % 16) 16).trans (congrArg (16 * ·) (Nat.mod_mod _ _))
  have hshift : (v >>> 4).toNat = v.toNat / 16 := Nat.shiftRight_eq_div_pow v.toNat 4
  have hlt : v.toNat / 16 < 2 ^ 4 := Nat.div_lt_of_lt_mul v.isLt
  rw [BitVec.toNat_or, hhigh, hshift, ← Nat.two_pow_add_eq_or_of_lt hlt]

/-- The result of a rotate or shift as a number (R205 to R212). -/
theorem rotValue_toNat (op : RotOp) (v : Byte) (c : Bool) :
    (rotValue op v c).toNat = rotNat op v.toNat c.toNat := by
  cases op with
  | rlc => rw [rotValue, shiftLeft_or_bitByte_toNat, toNat_highBit, rotNat]
  | rrc => rw [rotValue, shiftRight_or_bitByte_toNat, toNat_lowBit, rotNat]
  | rl => exact shiftLeft_or_bitByte_toNat v c
  | rr => exact shiftRight_or_bitByte_toNat v c
  | sla => exact shiftLeft_one_toNat v
  | sra => rw [rotValue, and_highBit, shiftRight_or_bitByte_toNat, toNat_highBit, rotNat]
  | swap => exact swapNibbles_toNat v
  | srl => exact Nat.shiftRight_eq_div_pow v.toNat 1

theorem rotValue_eq_ofNat (op : RotOp) (v : Byte) (c : Bool) :
    rotValue op v c = BitVec.ofNat 8 (rotNat op v.toNat c.toNat) := by
  rw [← rotValue_toNat, BitVec.ofNat_toNat, BitVec.setWidth_eq]

theorem rotValue_beq_zero (op : RotOp) (v : Byte) (c : Bool) :
    (rotValue op v c == 0) = decide (rotNat op v.toNat c.toNat = 0) := by
  rw [← rotValue_toNat, beq_eq_decide, decide_eq_decide, ← BitVec.toNat_inj]
  rfl

/-- The bit shifted out, as a number (R205 to R212). -/
theorem rotCarry_eq_rotOut (op : RotOp) (v : Byte) : rotCarry op v = rotOut op v.toNat := by
  cases op with
  | rlc | rl | sla => exact v.getLsbD_last
  | rrc | rr | sra | srl => exact Nat.testBit_zero v.toNat
  | swap => rfl

/-! ### A bit cleared or set, as numbers (R214, R215) -/

/-- R214 with the mask of the bit under its library name. -/
theorem clearBit_eq_twoPow (n : Fin 8) (v : Byte) : clearBit n v = v &&& ~~~BitVec.twoPow 8 n.val := by
  rw [clearBit, BitVec.xor_comm]
  exact congrArg (v &&& ·) BitVec.xor_allOnes

theorem and_twoPow_toNat (n : Fin 8) (v : Byte) :
    (v &&& BitVec.twoPow 8 n.val).toNat = 2 ^ n.val * (v.toNat / 2 ^ n.val % 2) := by
  rw [BitVec.and_twoPow, ← Nat.toNat_testBit, BitVec.testBit_toNat]
  cases v.getLsbD n.val with
  | false => rfl
  | true => exact (BitVec.toNat_twoPow_of_lt n.isLt).trans (Nat.mul_one _).symm

theorem clearBit_and_twoPow (n : Fin 8) (v : Byte) : clearBit n v &&& BitVec.twoPow 8 n.val = 0#8 := by
  rw [clearBit_eq_twoPow, BitVec.and_assoc, BitVec.not_and_self]
  exact BitVec.and_zero

/-- A byte is the byte with a bit cleared, and that bit. -/
theorem clearBit_toNat_add (n : Fin 8) (v : Byte) :
    (clearBit n v).toNat + 2 ^ n.val * (v.toNat / 2 ^ n.val % 2) = v.toNat := by
  have hdisjoint : clearBit n v &&& (v &&& BitVec.twoPow 8 n.val) = 0#8 := by
    rw [BitVec.and_comm v, ← BitVec.and_assoc, clearBit_and_twoPow, BitVec.zero_and]
  have hjoin : clearBit n v ||| (v &&& BitVec.twoPow 8 n.val) = v := by
    rw [clearBit_eq_twoPow, ← BitVec.and_or_distrib_left, BitVec.not_or_self, BitVec.and_allOnes]
  rw [← and_twoPow_toNat, ← BitVec.toNat_add_of_and_eq_zero hdisjoint, BitVec.add_eq_or_of_and_eq_zero _ _ hdisjoint,
    hjoin]

/-- Setting a bit adds its weight to the byte with the bit cleared. -/
theorem putBit_toNat (n : Fin 8) (v : Byte) : (putBit n v).toNat = (clearBit n v).toNat + 2 ^ n.val := by
  have hjoin : clearBit n v ||| BitVec.twoPow 8 n.val = putBit n v := by
    change _ = v ||| BitVec.twoPow 8 n.val
    rw [clearBit_eq_twoPow]
    ext i
    simp only [BitVec.getElem_or, BitVec.getElem_and, BitVec.getElem_not]
    cases v[i] <;> cases (BitVec.twoPow 8 n.val)[i] <;> rfl
  have hdisjoint := clearBit_and_twoPow n v
  rw [← hjoin, ← BitVec.add_eq_or_of_and_eq_zero _ _ hdisjoint, BitVec.toNat_add_of_and_eq_zero hdisjoint,
    BitVec.toNat_twoPow_of_lt n.isLt]

/-- A bit cleared is its weight subtracted where the bit was set (R214). -/
theorem clearBit_eq_ofNat (n : Fin 8) (v : Byte) :
    clearBit n v = BitVec.ofNat 8 (v.toNat - 2 ^ n.val * (v.toNat / 2 ^ n.val % 2)) := by
  have hsum := clearBit_toNat_add n v
  rw [← Nat.eq_sub_of_add_eq hsum, BitVec.ofNat_toNat, BitVec.setWidth_eq]

/-- A bit set is its weight added where the bit was clear (R215). -/
theorem putBit_eq_ofNat (n : Fin 8) (v : Byte) :
    putBit n v = BitVec.ofNat 8 (v.toNat + 2 ^ n.val * (1 - v.toNat / 2 ^ n.val % 2)) := by
  have hsum : (putBit n v).toNat = v.toNat + 2 ^ n.val * (1 - v.toNat / 2 ^ n.val % 2) := by
    have hclear := clearBit_toNat_add n v
    rw [putBit_toNat]
    rcases Nat.mod_two_eq_zero_or_one (v.toNat / 2 ^ n.val) with hbit | hbit <;> rw [hbit] at hclear ⊢ <;> omega
  rw [← hsum, BitVec.ofNat_toNat, BitVec.setWidth_eq]

/-! ### The flags written, and the rotates of A -/

/-- The flags of a prefixed rotate or shift, as numbers. -/
theorem Regs.putFlags_rot (x : Regs) (op : RotOp) (v : Byte) (c : Bool) :
    x.putFlags (some (rotValue op v c == 0)) (some false) (some false) (some (rotCarry op v)) =
      { x with f := flagByte (decide (rotNat op v.toNat c.toNat = 0)) false false (rotOut op v.toNat) } := by
  rw [Regs.putFlags_eq, rotValue_beq_zero, rotCarry_eq_rotOut]
  rfl

/-- A rotate of A writes A and F; its Z is 0 whatever the result (R200 to R203). -/
theorem runRotA_eq (op : RotOp) (s : State) :
    runRotA op s =
      .next
        { s.retired 1 1 with
          regs :=
            { s.regs with
              a := BitVec.ofNat 8 (rotNat op s.regs.a.toNat s.regs.flagC.toNat)
              f := flagByte false false false (rotOut op s.regs.a.toNat) } } := by
  rw [← rotValue_eq_ofNat, ← rotCarry_eq_rotOut]
  exact (runFixed_eq_retired 1 1 rfl).trans (by rw [Regs.putFlags_eq]; rfl)

/-- The flags of BIT, as numbers; C is left. -/
theorem Regs.putFlags_bit (x : Regs) (n : Fin 8) (v : Byte) :
    x.putFlags (some !v.getLsbD n.val) (some false) (some true) none =
      { x with f := flagByte (decide (v.toNat / 2 ^ n.val % 2 = 0)) false true x.flagC } := by
  rw [Regs.putFlags_eq, not_getLsbD_eq]
  rfl

/-! ### Encodings -/

theorem encode_rotInstr (op : RotOp) (t : Target) : encode (rotInstr op t) = [0xCB, opByte 0 op.code t.code] := by
  cases op <;> rcases t with (_ | _ | _ | _ | _ | _ | _) | _ <;> rfl

theorem encode_bitInstr (n : Fin 8) (t : Target) : encode (bitInstr n t) = [0xCB, opByte 1 n.val t.code] := by
  fin_cases n <;> rcases t with (_ | _ | _ | _ | _ | _ | _) | _ <;> rfl

theorem encode_resInstr (n : Fin 8) (t : Target) : encode (resInstr n t) = [0xCB, opByte 2 n.val t.code] := by
  fin_cases n <;> rcases t with (_ | _ | _ | _ | _ | _ | _) | _ <;> rfl

theorem encode_setInstr (n : Fin 8) (t : Target) : encode (setInstr n t) = [0xCB, opByte 3 n.val t.code] := by
  fin_cases n <;> rcases t with (_ | _ | _ | _ | _ | _ | _) | _ <;> rfl

/-! ### The obligations -/

/-- Settles O36: each of the four is the shared rotate of A. -/
theorem accumulatorRotates : Obligations.AccumulatorRotates := by
  unfold Obligations.AccumulatorRotates
  exact fun s => ⟨⟨rfl, runRotA_eq .rlc s⟩, ⟨rfl, runRotA_eq .rrc s⟩, ⟨rfl, runRotA_eq .rl s⟩, rfl, runRotA_eq .rr s⟩

/-- Settles O37: the register form is one write of the register, the form at HL one read and then one store. -/
theorem prefixedRotatesAndShifts : Obligations.PrefixedRotatesAndShifts := by
  unfold Obligations.PrefixedRotatesAndShifts
  refine fun op t s => ⟨encode_rotInstr op t, ?_⟩
  rw [exec_rotInstr]
  rcases t with x | _ <;> dsimp only <;> rw [← rotValue_eq_ofNat, ← Regs.putFlags_rot]
  case reg => exact runFixed_eq_retired 2 2 rfl
  case atHl => exact storesOneByte_runFixed_regs 2 4 rfl

/-- Settles O38: both forms write F alone; the form at HL leaves its one read on the bus. -/
theorem testBit : Obligations.TestBit := by
  unfold Obligations.TestBit
  refine fun n t s => ⟨encode_bitInstr n t, ?_⟩
  rw [exec_bitInstr]
  rcases t with r | _ <;> dsimp only <;> rw [← Regs.putFlags_bit]
  case reg => exact runFixed_eq_retired 2 2 rfl
  case atHl => exact runFixed_eq_retired 2 3 rfl

/-- Settles O39: the old value with the bit cleared or set is written to the register, or after one read to the byte at HL. -/
theorem resetAndSetBit : Obligations.ResetAndSetBit := by
  unfold Obligations.ResetAndSetBit
  refine fun n t s => ⟨encode_resInstr n t, encode_setInstr n t, ?_⟩
  rw [exec_resInstr, exec_setInstr]
  rcases t with r | _ <;> dsimp only <;> rw [← clearBit_eq_ofNat, ← putBit_eq_ofNat]
  case reg => exact ⟨runFixed_eq_retired 2 2 rfl, runFixed_eq_retired 2 2 rfl⟩
  case atHl => exact ⟨storesOneByte_runFixed_regs 2 4 rfl, storesOneByte_runFixed_regs 2 4 rfl⟩

end Sys2Proof.Machine
end
